-- ==== Sys2Proof/Word.lean ====
section
/-! DEFINITION. The two word types of the core (spec/00_scope.md R6, P1, P2). -/

namespace Sys2Proof

/-- `u8`: an 8-bit unsigned value (R6, P1). -/
abbrev Byte := BitVec 8

/-- `u16`: a 16-bit unsigned value; also an address (R6, P2). -/
abbrev Word := BitVec 16

end Sys2Proof
end

