-- ==== Sys2Proof/Machine/Bits.lean ====
section
/-! DEFINITION. The stateless bit helpers of spec/00_scope.md R6 and R9: halves of a word, joining them,
extension, and the low nibble the flag rules speak of. -/

namespace Sys2Proof.Machine

/-- `lo(v) = v[7:0]` (R9). -/
def lo (v : Word) : Byte := v.extractLsb' 0 8

/-- `hi(v) = v[15:8]` (R9). -/
def hi (v : Word) : Byte := v.extractLsb' 8 8

/-- `{h, l}`: `h` in the high bits (R6). -/
def join (h l : Byte) : Word := h ++ l

/-- `zext_16(v)` (R6). -/
def zext16 (v : Byte) : Word := v.setWidth 16

/-- `sext_16(v)`: `v` if `v < 0x80`, else `0xFF00 + v` (R6). -/
def sext16 (v : Byte) : Word := if v.toNat < 0x80 then zext16 v else 0xFF00#16 + zext16 v

/-- `v & 0x0F` as a number, the operand of every half-carry rule (R26). -/
def lowNibble (v : Byte) : Nat := (v &&& 0x0F#8).toNat

/-- One bit as a byte of value 0 or 1. -/
def bitByte (b : Bool) : Byte := if b then 1#8 else 0#8

end Sys2Proof.Machine
end

