-- ==== Sys2Proof/Config.lean ====
section
/-! DEFINITION. What an implementation fixes (spec/00_scope.md section 3). Of the two parameters the spec leaves open
(R5), P6 `CLOCK_BITS` is a field of `State` whose default stands here; P7 `MemoryUnit` is the two functions `unitRead`
and `unitWrite`, which have no body, with the fields `mem`, `regions` and `unit` of `State`. The spec leaves no result
undefined (spec/93_implementation_defined.md Part A), so these two are the only free values. -/

namespace Sys2Proof.Config

/-- P3: clock cycles in one machine cycle. -/
def clocksPerMachineCycle : Nat := 4

/-- P6: the default width of each clock counter (spec/92_eei_decisions.md D5). -/
def defaultClockBits : Nat := 64

/-- What a byte of the default Memory Unit reads as before anything has written it. DESIGN CHOICE, unsafe
(log entry 2): R69 gives the array no initial contents; spec/95_test_vectors.md starts it all zero. -/
def unlistedByte : Byte := 0x00#8

/-- What the Memory Unit reports of a failing access. The core adds no interpretation (R53, R233), so it is an
uninterpreted number. DESIGN CHOICE, safe (log entry 8). -/
abbrev MemInfo := Nat

/-- Everything a Memory Unit remembers inside itself (a bank number, a device register, the contents of switched
banks), as one uninterpreted number. DESIGN CHOICE, safe (log entry 1). -/
abbrev UnitState := Nat

/-- Parameter P7, the Memory Unit's own `read(address)` (R51, R53): the byte or the failure it reports, and what it
remembers afterwards, for a read may have side effects. FREE VALUE: nothing constrains it (log entry 1). -/
opaque unitRead : UnitState → Word → Except MemInfo Byte × UnitState

/-- Parameter P7, the Memory Unit's own `write(address, value)` (R52, R53): the failure it reports, if any, and what it
remembers afterwards: a stored byte, a switched bank, a device's reaction. FREE VALUE: nothing constrains it (log
entry 1). -/
opaque unitWrite : UnitState → Word → Byte → Option MemInfo × UnitState

end Sys2Proof.Config
end

