-- ==== Sys2Proof/Machine/State.lean ====
section
/-! DEFINITION. The state of the core as plain data (spec/10_state.md), the two parameters the spec leaves open
(spec/00_scope.md R5), the faults (spec/60_exceptions.md section 1) and the state after reset (R39). -/

namespace Sys2Proof.Machine

/-- The clock (R31): cost of the most recent instruction and running totals, in machine and clock cycles. Each
is a number below `2^clockBits`; `tick` reduces it. -/
structure Clock where
  m : Nat
  t : Nat
  totalM : Nat
  totalT : Nat
deriving DecidableEq, Repr

/-- What the Memory Unit reports of a failing access (R53). -/
abbrev MemInfo := Config.MemInfo

/-- What a read does in a region of the Memory Unit (R51, R53). -/
inductive ReadPolicy where
  /-- the byte last stored -/
  | stored
  /-- always this byte (an unmapped region, R211) -/
  | fixed (v : Byte)
  /-- the access fails and reports `info` (R53) -/
  | fails (info : MemInfo)
  /-- the Memory Unit answers by `Config.unitRead`, as it will, and may change what it remembers (R51, P7) -/
  | unit
deriving DecidableEq, Repr

/-- What a write does in a region of the Memory Unit (R52, R53). -/
inductive WritePolicy where
  /-- the byte is stored -/
  | stored
  /-- the write is ignored -/
  | ignored
  /-- the access fails and reports `info` (R53) -/
  | fails (info : MemInfo)
  /-- the Memory Unit reacts by `Config.unitWrite`, as it will: a switched bank, a device (R52, P7) -/
  | unit
deriving DecidableEq, Repr

/-- A range of addresses, both ends included, on which the Memory Unit departs from flat RAM. DESIGN CHOICE
(log entry 1): this is how the model takes the parameter `MemoryUnit` (P7). One range over the whole address space
with `unit` in both directions is any Memory Unit whatever; the other policies say in plain data what a simple one does. -/
structure Region where
  first : Word
  last : Word
  onRead : ReadPolicy
  onWrite : WritePolicy
deriving DecidableEq, Repr

/-- The whole machine between two steps. -/
structure State where
  /-- accumulator (R20) -/
  a : Byte
  /-- flags, Z N H C in bits 7..4, bits 3..0 zero (R24, R25) -/
  f : Byte
  b : Byte
  c : Byte
  d : Byte
  e : Byte
  h : Byte
  l : Byte
  /-- program counter (R29) -/
  pc : Word
  /-- stack pointer: address of the most recently pushed byte (R30) -/
  sp : Word
  /-- the cycle accounting unit (R31) -/
  clk : Clock
  /-- interrupt master enable (R34) -/
  ime : Bool
  /-- output to the shell, set by HALT (R35) -/
  halted : Bool
  /-- output to the shell, set by STOP (R35) -/
  stopped : Bool
  /-- the fault latch (R230) -/
  faulted : Bool
  /-- memory contents behind the Memory Unit, in canonical form (R50, R69) -/
  mem : List Host.Cell
  /-- parameter P7 `MemoryUnit`: the first region that covers an address decides; elsewhere flat RAM -/
  regions : List Region
  /-- parameter P7 `MemoryUnit`: what it remembers besides `mem` (R51, R52); no rule of the core looks into it -/
  unit : Config.UnitState
  /-- parameter P6 `CLOCK_BITS` -/
  clockBits : Nat
deriving DecidableEq, Repr

/-- Why a step ends without a next state (R230 to R233). `left` is the core as the fault leaves it, its latch set. -/
inductive Fault where
  /-- Code 1 (R231). Raised by the bit primitives called directly with an index above 7; no instruction raises
  it (R10). Safe: the spec says it is fatal. -/
  | bitIndexOutOfRange (n : Nat)
  /-- Code 2 (R232). Raised by the eleven unresolved opcodes (R84); `a0` is the address of the byte. Safe: the
  spec says it is fatal. -/
  | unresolvedOpcode (op : Byte) (a0 : Word) (left : State)
  /-- Code 3 (R233). Raised at any access that the Memory Unit fails. Safe: the spec says it is fatal. -/
  | memoryAccessFailure (info : MemInfo) (left : State)
  /-- Stuck: raised by `step` on a faulted core, for which the spec gives no step (R230, U5). Safe. -/
  | stepWhileFaulted
deriving DecidableEq, Repr

/-- Why a step is refused. -/
inductive Refusal where
  /-- Raised only by an arm of `exec` whose instruction has no meaning yet; there is none. Safe. -/
  | notModelled (mnemonic : String)
deriving DecidableEq, Repr

/-- The state after construction with a Memory Unit and a counter width (R38, R39, R246): every register and
counter zero, the added bits clear, the Memory Unit untouched. -/
def State.construct (mem : List Host.Cell) (regions : List Region) (unit : Config.UnitState) (clockBits : Nat) :
    State :=
  { a := 0#8, f := 0#8, b := 0#8, c := 0#8, d := 0#8, e := 0#8, h := 0#8, l := 0#8,
    pc := 0#16, sp := 0#16, clk := { m := 0, t := 0, totalM := 0, totalT := 0 },
    ime := false, halted := false, stopped := false, faulted := false,
    mem := mem, regions := regions, unit := unit, clockBits := clockBits }

/-- The machine right after reset (R39, R260), with the default Memory Unit (R69: flat RAM, no range, so that `unit`
is never used; its 0 is a DESIGN CHOICE, log entry 1) and the default counter width (D5). Nothing is placed in memory. -/
def State.reset : State := State.construct [] [] 0 Config.defaultClockBits

end Sys2Proof.Machine
end

