-- ==== Sys2Proof/Machine/Memory.lean ====
section
/-! DEFINITION. The Memory Unit's two operations (spec/20_memory.md R50 to R53, R69): lookup and update of the cell list
in its canonical form, the policy of the region an address lies in, and what an access answers and leaves behind. A
failing access, too, leaves whatever the Memory Unit then remembers. -/

namespace Sys2Proof.Machine

/-- The canonical form from address `from` on: addresses strictly rising and below 2^16, and no entry equal to
what an unlisted address reads as. -/
def Memory.wfFrom (low : Nat) : List Host.Cell → Bool
  | [] => true
  | (k, v) :: m =>
    decide (low ≤ k) && decide (k < 65536) && decide (v ≠ Config.unlistedByte) && Memory.wfFrom (k + 1) m

/-- The canonical form of memory. -/
def Memory.wf (m : List Host.Cell) : Bool := Memory.wfFrom 0 m

/-- `mem[a]` (R69). -/
def Memory.get : List Host.Cell → Nat → Byte
  | [], _ => Config.unlistedByte
  | (k, v) :: m, a => if k = a then v else Memory.get m a

/-- `mem[a] <- v` (R69), keeping the canonical form: the unlisted value removes the entry. -/
def Memory.set : List Host.Cell → Nat → Byte → List Host.Cell
  | [], a, v => if v = Config.unlistedByte then [] else [(a, v)]
  | (k, w) :: m, a, v =>
    if a < k then (if v = Config.unlistedByte then (k, w) :: m else (a, v) :: (k, w) :: m)
    else if a = k then (if v = Config.unlistedByte then m else (a, v) :: m)
    else (k, w) :: Memory.set m a v

/-- Does the region hold the address? Both ends are included. -/
def regionCovers (r : Region) (x : Word) : Bool :=
  decide (r.first.toNat ≤ x.toNat) && decide (x.toNat ≤ r.last.toNat)

/-- What a read at `x` does: the first region that covers `x` decides; elsewhere the stored byte comes back. -/
def readPolicyAt (rs : List Region) (x : Word) : ReadPolicy :=
  match rs.find? (fun r => regionCovers r x) with
  | some r => r.onRead
  | none => .stored

/-- What a write at `x` does: the first region that covers `x` decides; elsewhere the byte is stored. -/
def writePolicyAt (rs : List Region) (x : Word) : WritePolicy :=
  match rs.find? (fun r => regionCovers r x) with
  | some r => r.onWrite
  | none => .stored

/-- What the Memory Unit's `read` answers (R51, R53): a byte, or the failure it reports. -/
def State.load (s : State) (x : Word) : Except MemInfo Byte :=
  match readPolicyAt s.regions x with
  | .stored => .ok (Memory.get s.mem x.toNat)
  | .fixed v => .ok v
  | .fails info => .error info
  | .unit => (Config.unitRead s.unit x).1

/-- What the Memory Unit remembers after a read at `x`: only its own `unitRead` can change it (R51). -/
def unitAfterRead (rs : List Region) (u : Config.UnitState) (x : Word) : Config.UnitState :=
  match readPolicyAt rs x with
  | .stored => u
  | .fixed _ => u
  | .fails _ => u
  | .unit => (Config.unitRead u x).2

/-- The state after the Memory Unit's `read`, answered or failed (R51, R53). -/
def State.afterLoad (s : State) (x : Word) : State := { s with unit := unitAfterRead s.regions s.unit x }

/-- The failure the Memory Unit's `write` reports, if any (R52, R53). -/
def State.storeFailure (s : State) (x : Word) (v : Byte) : Option MemInfo :=
  match writePolicyAt s.regions x with
  | .stored => none
  | .ignored => none
  | .fails info => some info
  | .unit => (Config.unitWrite s.unit x v).1

/-- The contents after a write of `v` at `x`: stored where the range says so (R52, R69). -/
def memAfterWrite (rs : List Region) (m : List Host.Cell) (x : Word) (v : Byte) : List Host.Cell :=
  match writePolicyAt rs x with
  | .stored => Memory.set m x.toNat v
  | .ignored => m
  | .fails _ => m
  | .unit => m

/-- What the Memory Unit remembers after a write of `v` at `x`: only its own `unitWrite` can change it (R52). -/
def unitAfterWrite (rs : List Region) (u : Config.UnitState) (x : Word) (v : Byte) : Config.UnitState :=
  match writePolicyAt rs x with
  | .stored => u
  | .ignored => u
  | .fails _ => u
  | .unit => (Config.unitWrite u x v).2

/-- The state after the Memory Unit's `write`, taken or failed (R52, R53). -/
def State.afterStore (s : State) (x : Word) (v : Byte) : State :=
  { s with mem := memAfterWrite s.regions s.mem x v, unit := unitAfterWrite s.regions s.unit x v }

end Sys2Proof.Machine
end

