-- ==== Sys2Proof/Machine/Ops.lean ====
section
/-! DEFINITION. The shared operations every meaning is written with: raising a fault (spec/60_exceptions.md R230),
memory access, fetch and stack (spec/20_memory.md R51 to R59), cycle accounting (spec/10_state.md R32), and the two
ways to go on after an operation that may fault. There is no return from a fault (R239). -/

namespace Sys2Proof.Machine

/-- The outcome of a whole instruction. -/
abbrev Out := Host.Outcome State Fault Refusal

/-- The outcome of an operation that yields a value and may change the state. -/
abbrev Res (α : Type) := Host.Outcome (α × State) Fault Refusal

/-- Go on with the value and the state, or end the step with the fault: no later action happens (R230). -/
def andThen {α β : Type} (r : Res α) (k : α → State → Host.Outcome β Fault Refusal) :
    Host.Outcome β Fault Refusal :=
  match r with
  | .next (v, s) => k v s
  | .fault x => .fault x
  | .refused x => .refused x

/-- Go on with the state, or end the step with the fault. -/
def thenDo {β : Type} (r : Out) (k : State → Host.Outcome β Fault Refusal) : Host.Outcome β Fault Refusal :=
  match r with
  | .next s => k s
  | .fault x => .fault x
  | .refused x => .refused x

/-- `raise`: the step ends here with the fault value, which carries the core as it stands with its latch set (R230). -/
def raise {β : Type} (mk : State → Fault) (s : State) : Host.Outcome β Fault Refusal :=
  .fault (mk { s with faulted := true })

/-- `MemRead(x, 1)` with its failure arm (R51, R53, R233). -/
def memRead (s : State) (x : Word) : Res Byte :=
  match s.load x with
  | .ok v => .next (v, s.afterLoad x)
  | .error info => raise (.memoryAccessFailure info) (s.afterLoad x)

/-- `MemWrite(x, 1, v)` with its failure arm (R52, R53, R233). -/
def memWrite (s : State) (x : Word) (v : Byte) : Out :=
  match s.storeFailure x v with
  | none => .next (s.afterStore x v)
  | some info => raise (.memoryAccessFailure info) (s.afterStore x v)

/-- `Fetch8()` (R56). -/
def fetch8 (s : State) : Res Byte :=
  andThen (memRead s s.pc) fun v t => .next (v, { t with pc := t.pc + 1#16 })

/-- `Fetch16()`: the low byte first (R57). -/
def fetch16 (s : State) : Res Word :=
  andThen (fetch8 s) fun l t => andThen (fetch8 t) fun h u => .next (join h l, u)

/-- SP moved down by one, before a push writes (R58). -/
def stackDown (s : State) : State := { s with sp := s.sp - 1#16 }

/-- SP moved up by one, after a pop has read (R59). -/
def stackUp (s : State) : State := { s with sp := s.sp + 1#16 }

/-- `Push16(v)`: decrement before writing, high byte first (R58). -/
def push16 (s : State) (v : Word) : Out :=
  thenDo (memWrite (stackDown s) (stackDown s).sp (hi v)) fun t =>
  memWrite (stackDown t) (stackDown t).sp (lo v)

/-- `Pop16()`: increment after reading, low byte first (R59). -/
def pop16 (s : State) : Res Word :=
  andThen (memRead s s.sp) fun l t =>
  andThen (memRead (stackUp t) (stackUp t).sp) fun h u =>
  .next (join h l, stackUp u)

/-- The clock after a cost of `n` machine cycles on counters of `bits` bits (R31, R32; R6: a write truncates). -/
def tickClock (bits : Nat) (k : Clock) (n : Nat) : Clock :=
  { m := n % 2 ^ bits
    t := (Config.clocksPerMachineCycle * n) % 2 ^ bits
    totalM := (k.totalM + n) % 2 ^ bits
    totalT := (k.totalT + Config.clocksPerMachineCycle * n) % 2 ^ bits }

/-- `Tick(n)` (R32). -/
def tick (n : Nat) (s : State) : State := { s with clk := tickClock s.clockBits s.clk n }

/-- The end of a completed instruction: its cost is recorded last (R32, R70). -/
def finish (n : Nat) (s : State) : Out := .next (tick n s)

end Sys2Proof.Machine
end

