-- ==== Sys2Proof/Syntax.lean ====
section
/-! DEFINITION. The instruction set as syntax: operand names (spec/30_encoding.md R74 to R80), one constructor of
`Instr` per row of spec/opcode_table.json (R82, R83, R90) with the immediate it carries (R81), and names for the
groups of constructors that differ only in their operand codes. -/

namespace Sys2Proof

/-- The seven registers of table `r8` (R74); code 6 is not a register. -/
inductive Reg8 where
  | b | c | d | e | h | l | a
deriving DecidableEq, Repr

/-- An 8-bit operand of table `r8` (R74): a register, or the byte at address HL. -/
inductive Operand8 where
  | reg (r : Reg8)
  | indHl
deriving DecidableEq, Repr

/-- Table `r16` (R75). -/
inductive Reg16 where
  | bc | de | hl | sp
deriving DecidableEq, Repr

/-- Table `r16stk` (R76). -/
inductive StackPair where
  | bc | de | hl | af
deriving DecidableEq, Repr

/-- Table `cc` (R78). -/
inductive Cond where
  | nz | z | nc | c
deriving DecidableEq, Repr

/-- Table `alu` (R79). -/
inductive AluOp where
  | add | adc | sub | sbc | and | xor | or | cp
deriving DecidableEq, Repr

/-- Table `rot` (R80). -/
inductive RotOp where
  | rlc | rrc | rl | rr | sla | sra | swap | srl
deriving DecidableEq, Repr

/-- One constructor per row of spec/opcode_table.json: the rows with an immediate first, then the others, each in the
table's order (Lean's runtime wants constructors with arguments among the first). `STOP` keeps its ignored byte
(R72, R222); the row `PREFIX CB` is not an instruction by itself (R72, R225). -/
inductive Instr where
  /-- `LD BC,d16` (R131) -/
  | ldBcD16 (v : Word)
  /-- `LD B,d8` (R102) -/
  | ldBD8 (v : Byte)
  /-- `LD (a16),SP` (R132) -/
  | ldIndA16Sp (a : Word)
  /-- `LD C,d8` (R102) -/
  | ldCD8 (v : Byte)
  /-- `STOP` (R222) -/
  | stop (ignored : Byte)
  /-- `LD DE,d16` (R131) -/
  | ldDeD16 (v : Word)
  /-- `LD D,d8` (R102) -/
  | ldDD8 (v : Byte)
  /-- `JR e8` (R204) -/
  | jrE8 (e : Byte)
  /-- `LD E,d8` (R102) -/
  | ldED8 (v : Byte)
  /-- `JR NZ,e8` (R205) -/
  | jrNzE8 (e : Byte)
  /-- `LD HL,d16` (R131) -/
  | ldHlD16 (v : Word)
  /-- `LD H,d8` (R102) -/
  | ldHD8 (v : Byte)
  /-- `JR Z,e8` (R205) -/
  | jrZE8 (e : Byte)
  /-- `LD L,d8` (R102) -/
  | ldLD8 (v : Byte)
  /-- `JR NC,e8` (R205) -/
  | jrNcE8 (e : Byte)
  /-- `LD SP,d16` (R131) -/
  | ldSpD16 (v : Word)
  /-- `LD (HL),d8` (R105) -/
  | ldIndHlD8 (v : Byte)
  /-- `JR C,e8` (R205) -/
  | jrCE8 (e : Byte)
  /-- `LD A,d8` (R102) -/
  | ldAD8 (v : Byte)
  /-- `JP NZ,a16` (R202) -/
  | jpNzA16 (a : Word)
  /-- `JP a16` (R201) -/
  | jpA16 (a : Word)
  /-- `CALL NZ,a16` (R207) -/
  | callNzA16 (a : Word)
  /-- `ADD A,d8` (R142) -/
  | addAD8 (v : Byte)
  /-- `JP Z,a16` (R202) -/
  | jpZA16 (a : Word)
  /-- `CALL Z,a16` (R207) -/
  | callZA16 (a : Word)
  /-- `CALL a16` (R206) -/
  | callA16 (a : Word)
  /-- `ADC A,d8` (R143) -/
  | adcAD8 (v : Byte)
  /-- `JP NC,a16` (R202) -/
  | jpNcA16 (a : Word)
  /-- `CALL NC,a16` (R207) -/
  | callNcA16 (a : Word)
  /-- `SUB A,d8` (R144) -/
  | subAD8 (v : Byte)
  /-- `JP C,a16` (R202) -/
  | jpCA16 (a : Word)
  /-- `CALL C,a16` (R207) -/
  | callCA16 (a : Word)
  /-- `SBC A,d8` (R145) -/
  | sbcAD8 (v : Byte)
  /-- `LDH (a8),A` (R115) -/
  | ldhIndA8A (n : Byte)
  /-- `AND A,d8` (R146) -/
  | andAD8 (v : Byte)
  /-- `ADD SP,e8` (R174) -/
  | addSpE8 (e : Byte)
  /-- `LD (a16),A` (R111) -/
  | ldIndA16A (a : Word)
  /-- `XOR A,d8` (R147) -/
  | xorAD8 (v : Byte)
  /-- `LDH A,(a8)` (R114) -/
  | ldhAIndA8 (n : Byte)
  /-- `OR A,d8` (R148) -/
  | orAD8 (v : Byte)
  /-- `LD HL,SP+e8` (R137) -/
  | ldHlSpE8 (e : Byte)
  /-- `LD A,(a16)` (R110) -/
  | ldAIndA16 (a : Word)
  /-- `CP A,d8` (R149) -/
  | cpAD8 (v : Byte)
  /-- `NOP` (R220) -/
  | nop
  /-- `LD (BC),A` (R108) -/
  | ldIndBcA
  /-- `INC BC` (R172) -/
  | incBc
  /-- `INC B` (R150) -/
  | incB
  /-- `DEC B` (R152) -/
  | decB
  /-- `RLCA` (R181) -/
  | rlca
  /-- `ADD HL,BC` (R171) -/
  | addHlBc
  /-- `LD A,(BC)` (R106) -/
  | ldAIndBc
  /-- `DEC BC` (R173) -/
  | decBc
  /-- `INC C` (R150) -/
  | incC
  /-- `DEC C` (R152) -/
  | decC
  /-- `RRCA` (R182) -/
  | rrca
  /-- `LD (DE),A` (R109) -/
  | ldIndDeA
  /-- `INC DE` (R172) -/
  | incDe
  /-- `INC D` (R150) -/
  | incD
  /-- `DEC D` (R152) -/
  | decD
  /-- `RLA` (R183) -/
  | rla
  /-- `ADD HL,DE` (R171) -/
  | addHlDe
  /-- `LD A,(DE)` (R107) -/
  | ldAIndDe
  /-- `DEC DE` (R173) -/
  | decDe
  /-- `INC E` (R150) -/
  | incE
  /-- `DEC E` (R152) -/
  | decE
  /-- `RRA` (R184) -/
  | rra
  /-- `LD (HL+),A` (R119) -/
  | ldIndHlIncA
  /-- `INC HL` (R172) -/
  | incHl
  /-- `INC H` (R150) -/
  | incH
  /-- `DEC H` (R152) -/
  | decH
  /-- `DAA` (R154) -/
  | daa
  /-- `ADD HL,HL` (R171) -/
  | addHlHl
  /-- `LD A,(HL+)` (R118) -/
  | ldAIndHlInc
  /-- `DEC HL` (R173) -/
  | decHl
  /-- `INC L` (R150) -/
  | incL
  /-- `DEC L` (R152) -/
  | decL
  /-- `CPL` (R155) -/
  | cpl
  /-- `LD (HL-),A` (R117) -/
  | ldIndHlDecA
  /-- `INC SP` (R172) -/
  | incSp
  /-- `INC (HL)` (R151) -/
  | incIndHl
  /-- `DEC (HL)` (R153) -/
  | decIndHl
  /-- `SCF` (R156) -/
  | scf
  /-- `ADD HL,SP` (R171) -/
  | addHlSp
  /-- `LD A,(HL-)` (R116) -/
  | ldAIndHlDec
  /-- `DEC SP` (R173) -/
  | decSp
  /-- `INC A` (R150) -/
  | incA
  /-- `DEC A` (R152) -/
  | decA
  /-- `CCF` (R157) -/
  | ccf
  /-- `LD B,B` (R101) -/
  | ldBB
  /-- `LD B,C` (R101) -/
  | ldBC
  /-- `LD B,D` (R101) -/
  | ldBD
  /-- `LD B,E` (R101) -/
  | ldBE
  /-- `LD B,H` (R101) -/
  | ldBH
  /-- `LD B,L` (R101) -/
  | ldBL
  /-- `LD B,(HL)` (R103) -/
  | ldBIndHl
  /-- `LD B,A` (R101) -/
  | ldBA
  /-- `LD C,B` (R101) -/
  | ldCB
  /-- `LD C,C` (R101) -/
  | ldCC
  /-- `LD C,D` (R101) -/
  | ldCD
  /-- `LD C,E` (R101) -/
  | ldCE
  /-- `LD C,H` (R101) -/
  | ldCH
  /-- `LD C,L` (R101) -/
  | ldCL
  /-- `LD C,(HL)` (R103) -/
  | ldCIndHl
  /-- `LD C,A` (R101) -/
  | ldCA
  /-- `LD D,B` (R101) -/
  | ldDB
  /-- `LD D,C` (R101) -/
  | ldDC
  /-- `LD D,D` (R101) -/
  | ldDD
  /-- `LD D,E` (R101) -/
  | ldDE
  /-- `LD D,H` (R101) -/
  | ldDH
  /-- `LD D,L` (R101) -/
  | ldDL
  /-- `LD D,(HL)` (R103) -/
  | ldDIndHl
  /-- `LD D,A` (R101) -/
  | ldDA
  /-- `LD E,B` (R101) -/
  | ldEB
  /-- `LD E,C` (R101) -/
  | ldEC
  /-- `LD E,D` (R101) -/
  | ldED
  /-- `LD E,E` (R101) -/
  | ldEE
  /-- `LD E,H` (R101) -/
  | ldEH
  /-- `LD E,L` (R101) -/
  | ldEL
  /-- `LD E,(HL)` (R103) -/
  | ldEIndHl
  /-- `LD E,A` (R101) -/
  | ldEA
  /-- `LD H,B` (R101) -/
  | ldHB
  /-- `LD H,C` (R101) -/
  | ldHC
  /-- `LD H,D` (R101) -/
  | ldHD
  /-- `LD H,E` (R101) -/
  | ldHE
  /-- `LD H,H` (R101) -/
  | ldHH
  /-- `LD H,L` (R101) -/
  | ldHL
  /-- `LD H,(HL)` (R103) -/
  | ldHIndHl
  /-- `LD H,A` (R101) -/
  | ldHA
  /-- `LD L,B` (R101) -/
  | ldLB
  /-- `LD L,C` (R101) -/
  | ldLC
  /-- `LD L,D` (R101) -/
  | ldLD
  /-- `LD L,E` (R101) -/
  | ldLE
  /-- `LD L,H` (R101) -/
  | ldLH
  /-- `LD L,L` (R101) -/
  | ldLL
  /-- `LD L,(HL)` (R103) -/
  | ldLIndHl
  /-- `LD L,A` (R101) -/
  | ldLA
  /-- `LD (HL),B` (R104) -/
  | ldIndHlB
  /-- `LD (HL),C` (R104) -/
  | ldIndHlC
  /-- `LD (HL),D` (R104) -/
  | ldIndHlD
  /-- `LD (HL),E` (R104) -/
  | ldIndHlE
  /-- `LD (HL),H` (R104) -/
  | ldIndHlH
  /-- `LD (HL),L` (R104) -/
  | ldIndHlL
  /-- `HALT` (R221) -/
  | halt
  /-- `LD (HL),A` (R104) -/
  | ldIndHlA
  /-- `LD A,B` (R101) -/
  | ldAB
  /-- `LD A,C` (R101) -/
  | ldAC
  /-- `LD A,D` (R101) -/
  | ldAD
  /-- `LD A,E` (R101) -/
  | ldAE
  /-- `LD A,H` (R101) -/
  | ldAH
  /-- `LD A,L` (R101) -/
  | ldAL
  /-- `LD A,(HL)` (R103) -/
  | ldAIndHl
  /-- `LD A,A` (R101) -/
  | ldAA
  /-- `ADD A,B` (R142) -/
  | addAB
  /-- `ADD A,C` (R142) -/
  | addAC
  /-- `ADD A,D` (R142) -/
  | addAD
  /-- `ADD A,E` (R142) -/
  | addAE
  /-- `ADD A,H` (R142) -/
  | addAH
  /-- `ADD A,L` (R142) -/
  | addAL
  /-- `ADD A,(HL)` (R142) -/
  | addAIndHl
  /-- `ADD A,A` (R142) -/
  | addAA
  /-- `ADC A,B` (R143) -/
  | adcAB
  /-- `ADC A,C` (R143) -/
  | adcAC
  /-- `ADC A,D` (R143) -/
  | adcAD
  /-- `ADC A,E` (R143) -/
  | adcAE
  /-- `ADC A,H` (R143) -/
  | adcAH
  /-- `ADC A,L` (R143) -/
  | adcAL
  /-- `ADC A,(HL)` (R143) -/
  | adcAIndHl
  /-- `ADC A,A` (R143) -/
  | adcAA
  /-- `SUB A,B` (R144) -/
  | subAB
  /-- `SUB A,C` (R144) -/
  | subAC
  /-- `SUB A,D` (R144) -/
  | subAD
  /-- `SUB A,E` (R144) -/
  | subAE
  /-- `SUB A,H` (R144) -/
  | subAH
  /-- `SUB A,L` (R144) -/
  | subAL
  /-- `SUB A,(HL)` (R144) -/
  | subAIndHl
  /-- `SUB A,A` (R144) -/
  | subAA
  /-- `SBC A,B` (R145) -/
  | sbcAB
  /-- `SBC A,C` (R145) -/
  | sbcAC
  /-- `SBC A,D` (R145) -/
  | sbcAD
  /-- `SBC A,E` (R145) -/
  | sbcAE
  /-- `SBC A,H` (R145) -/
  | sbcAH
  /-- `SBC A,L` (R145) -/
  | sbcAL
  /-- `SBC A,(HL)` (R145) -/
  | sbcAIndHl
  /-- `SBC A,A` (R145) -/
  | sbcAA
  /-- `AND A,B` (R146) -/
  | andAB
  /-- `AND A,C` (R146) -/
  | andAC
  /-- `AND A,D` (R146) -/
  | andAD
  /-- `AND A,E` (R146) -/
  | andAE
  /-- `AND A,H` (R146) -/
  | andAH
  /-- `AND A,L` (R146) -/
  | andAL
  /-- `AND A,(HL)` (R146) -/
  | andAIndHl
  /-- `AND A,A` (R146) -/
  | andAA
  /-- `XOR A,B` (R147) -/
  | xorAB
  /-- `XOR A,C` (R147) -/
  | xorAC
  /-- `XOR A,D` (R147) -/
  | xorAD
  /-- `XOR A,E` (R147) -/
  | xorAE
  /-- `XOR A,H` (R147) -/
  | xorAH
  /-- `XOR A,L` (R147) -/
  | xorAL
  /-- `XOR A,(HL)` (R147) -/
  | xorAIndHl
  /-- `XOR A,A` (R147) -/
  | xorAA
  /-- `OR A,B` (R148) -/
  | orAB
  /-- `OR A,C` (R148) -/
  | orAC
  /-- `OR A,D` (R148) -/
  | orAD
  /-- `OR A,E` (R148) -/
  | orAE
  /-- `OR A,H` (R148) -/
  | orAH
  /-- `OR A,L` (R148) -/
  | orAL
  /-- `OR A,(HL)` (R148) -/
  | orAIndHl
  /-- `OR A,A` (R148) -/
  | orAA
  /-- `CP A,B` (R149) -/
  | cpAB
  /-- `CP A,C` (R149) -/
  | cpAC
  /-- `CP A,D` (R149) -/
  | cpAD
  /-- `CP A,E` (R149) -/
  | cpAE
  /-- `CP A,H` (R149) -/
  | cpAH
  /-- `CP A,L` (R149) -/
  | cpAL
  /-- `CP A,(HL)` (R149) -/
  | cpAIndHl
  /-- `CP A,A` (R149) -/
  | cpAA
  /-- `RET NZ` (R209) -/
  | retNz
  /-- `POP BC` (R135) -/
  | popBc
  /-- `PUSH BC` (R134) -/
  | pushBc
  /-- `RST 00H` (R211) -/
  | rst00
  /-- `RET Z` (R209) -/
  | retZ
  /-- `RET` (R208) -/
  | ret
  /-- `PREFIX CB` (R225) -/
  | prefixCb
  /-- `RST 08H` (R211) -/
  | rst08
  /-- `RET NC` (R209) -/
  | retNc
  /-- `POP DE` (R135) -/
  | popDe
  /-- `ILLEGAL_D3` (R226) -/
  | illegalD3
  /-- `PUSH DE` (R134) -/
  | pushDe
  /-- `RST 10H` (R211) -/
  | rst10
  /-- `RET C` (R209) -/
  | retC
  /-- `RETI` (R210) -/
  | reti
  /-- `ILLEGAL_DB` (R226) -/
  | illegalDB
  /-- `ILLEGAL_DD` (R226) -/
  | illegalDD
  /-- `RST 18H` (R211) -/
  | rst18
  /-- `POP HL` (R135) -/
  | popHl
  /-- `LDH (C),A` (R113) -/
  | ldhIndCA
  /-- `ILLEGAL_E3` (R226) -/
  | illegalE3
  /-- `ILLEGAL_E4` (R226) -/
  | illegalE4
  /-- `PUSH HL` (R134) -/
  | pushHl
  /-- `RST 20H` (R211) -/
  | rst20
  /-- `JP HL` (R203) -/
  | jpHl
  /-- `ILLEGAL_EB` (R226) -/
  | illegalEB
  /-- `ILLEGAL_EC` (R226) -/
  | illegalEC
  /-- `ILLEGAL_ED` (R226) -/
  | illegalED
  /-- `RST 28H` (R211) -/
  | rst28
  /-- `POP AF` (R136) -/
  | popAf
  /-- `LDH A,(C)` (R112) -/
  | ldhAIndC
  /-- `DI` (R223) -/
  | di
  /-- `ILLEGAL_F4` (R226) -/
  | illegalF4
  /-- `PUSH AF` (R134) -/
  | pushAf
  /-- `RST 30H` (R211) -/
  | rst30
  /-- `LD SP,HL` (R133) -/
  | ldSpHl
  /-- `EI` (R224) -/
  | ei
  /-- `ILLEGAL_FC` (R226) -/
  | illegalFC
  /-- `ILLEGAL_FD` (R226) -/
  | illegalFD
  /-- `RST 38H` (R211) -/
  | rst38
  -- the extended table (R83)
  /-- `RLC B` (R185) -/
  | rlcB
  /-- `RLC C` (R185) -/
  | rlcC
  /-- `RLC D` (R185) -/
  | rlcD
  /-- `RLC E` (R185) -/
  | rlcE
  /-- `RLC H` (R185) -/
  | rlcH
  /-- `RLC L` (R185) -/
  | rlcL
  /-- `RLC (HL)` (R185) -/
  | rlcIndHl
  /-- `RLC A` (R185) -/
  | rlcA
  /-- `RRC B` (R186) -/
  | rrcB
  /-- `RRC C` (R186) -/
  | rrcC
  /-- `RRC D` (R186) -/
  | rrcD
  /-- `RRC E` (R186) -/
  | rrcE
  /-- `RRC H` (R186) -/
  | rrcH
  /-- `RRC L` (R186) -/
  | rrcL
  /-- `RRC (HL)` (R186) -/
  | rrcIndHl
  /-- `RRC A` (R186) -/
  | rrcA
  /-- `RL B` (R187) -/
  | rlB
  /-- `RL C` (R187) -/
  | rlC
  /-- `RL D` (R187) -/
  | rlD
  /-- `RL E` (R187) -/
  | rlE
  /-- `RL H` (R187) -/
  | rlH
  /-- `RL L` (R187) -/
  | rlL
  /-- `RL (HL)` (R187) -/
  | rlIndHl
  /-- `RL A` (R187) -/
  | rlA
  /-- `RR B` (R188) -/
  | rrB
  /-- `RR C` (R188) -/
  | rrC
  /-- `RR D` (R188) -/
  | rrD
  /-- `RR E` (R188) -/
  | rrE
  /-- `RR H` (R188) -/
  | rrH
  /-- `RR L` (R188) -/
  | rrL
  /-- `RR (HL)` (R188) -/
  | rrIndHl
  /-- `RR A` (R188) -/
  | rrA
  /-- `SLA B` (R189) -/
  | slaB
  /-- `SLA C` (R189) -/
  | slaC
  /-- `SLA D` (R189) -/
  | slaD
  /-- `SLA E` (R189) -/
  | slaE
  /-- `SLA H` (R189) -/
  | slaH
  /-- `SLA L` (R189) -/
  | slaL
  /-- `SLA (HL)` (R189) -/
  | slaIndHl
  /-- `SLA A` (R189) -/
  | slaA
  /-- `SRA B` (R190) -/
  | sraB
  /-- `SRA C` (R190) -/
  | sraC
  /-- `SRA D` (R190) -/
  | sraD
  /-- `SRA E` (R190) -/
  | sraE
  /-- `SRA H` (R190) -/
  | sraH
  /-- `SRA L` (R190) -/
  | sraL
  /-- `SRA (HL)` (R190) -/
  | sraIndHl
  /-- `SRA A` (R190) -/
  | sraA
  /-- `SWAP B` (R191) -/
  | swapB
  /-- `SWAP C` (R191) -/
  | swapC
  /-- `SWAP D` (R191) -/
  | swapD
  /-- `SWAP E` (R191) -/
  | swapE
  /-- `SWAP H` (R191) -/
  | swapH
  /-- `SWAP L` (R191) -/
  | swapL
  /-- `SWAP (HL)` (R191) -/
  | swapIndHl
  /-- `SWAP A` (R191) -/
  | swapA
  /-- `SRL B` (R192) -/
  | srlB
  /-- `SRL C` (R192) -/
  | srlC
  /-- `SRL D` (R192) -/
  | srlD
  /-- `SRL E` (R192) -/
  | srlE
  /-- `SRL H` (R192) -/
  | srlH
  /-- `SRL L` (R192) -/
  | srlL
  /-- `SRL (HL)` (R192) -/
  | srlIndHl
  /-- `SRL A` (R192) -/
  | srlA
  /-- `BIT 0,B` (R193) -/
  | bit0B
  /-- `BIT 0,C` (R193) -/
  | bit0C
  /-- `BIT 0,D` (R193) -/
  | bit0D
  /-- `BIT 0,E` (R193) -/
  | bit0E
  /-- `BIT 0,H` (R193) -/
  | bit0H
  /-- `BIT 0,L` (R193) -/
  | bit0L
  /-- `BIT 0,(HL)` (R193) -/
  | bit0IndHl
  /-- `BIT 0,A` (R193) -/
  | bit0A
  /-- `BIT 1,B` (R193) -/
  | bit1B
  /-- `BIT 1,C` (R193) -/
  | bit1C
  /-- `BIT 1,D` (R193) -/
  | bit1D
  /-- `BIT 1,E` (R193) -/
  | bit1E
  /-- `BIT 1,H` (R193) -/
  | bit1H
  /-- `BIT 1,L` (R193) -/
  | bit1L
  /-- `BIT 1,(HL)` (R193) -/
  | bit1IndHl
  /-- `BIT 1,A` (R193) -/
  | bit1A
  /-- `BIT 2,B` (R193) -/
  | bit2B
  /-- `BIT 2,C` (R193) -/
  | bit2C
  /-- `BIT 2,D` (R193) -/
  | bit2D
  /-- `BIT 2,E` (R193) -/
  | bit2E
  /-- `BIT 2,H` (R193) -/
  | bit2H
  /-- `BIT 2,L` (R193) -/
  | bit2L
  /-- `BIT 2,(HL)` (R193) -/
  | bit2IndHl
  /-- `BIT 2,A` (R193) -/
  | bit2A
  /-- `BIT 3,B` (R193) -/
  | bit3B
  /-- `BIT 3,C` (R193) -/
  | bit3C
  /-- `BIT 3,D` (R193) -/
  | bit3D
  /-- `BIT 3,E` (R193) -/
  | bit3E
  /-- `BIT 3,H` (R193) -/
  | bit3H
  /-- `BIT 3,L` (R193) -/
  | bit3L
  /-- `BIT 3,(HL)` (R193) -/
  | bit3IndHl
  /-- `BIT 3,A` (R193) -/
  | bit3A
  /-- `BIT 4,B` (R193) -/
  | bit4B
  /-- `BIT 4,C` (R193) -/
  | bit4C
  /-- `BIT 4,D` (R193) -/
  | bit4D
  /-- `BIT 4,E` (R193) -/
  | bit4E
  /-- `BIT 4,H` (R193) -/
  | bit4H
  /-- `BIT 4,L` (R193) -/
  | bit4L
  /-- `BIT 4,(HL)` (R193) -/
  | bit4IndHl
  /-- `BIT 4,A` (R193) -/
  | bit4A
  /-- `BIT 5,B` (R193) -/
  | bit5B
  /-- `BIT 5,C` (R193) -/
  | bit5C
  /-- `BIT 5,D` (R193) -/
  | bit5D
  /-- `BIT 5,E` (R193) -/
  | bit5E
  /-- `BIT 5,H` (R193) -/
  | bit5H
  /-- `BIT 5,L` (R193) -/
  | bit5L
  /-- `BIT 5,(HL)` (R193) -/
  | bit5IndHl
  /-- `BIT 5,A` (R193) -/
  | bit5A
  /-- `BIT 6,B` (R193) -/
  | bit6B
  /-- `BIT 6,C` (R193) -/
  | bit6C
  /-- `BIT 6,D` (R193) -/
  | bit6D
  /-- `BIT 6,E` (R193) -/
  | bit6E
  /-- `BIT 6,H` (R193) -/
  | bit6H
  /-- `BIT 6,L` (R193) -/
  | bit6L
  /-- `BIT 6,(HL)` (R193) -/
  | bit6IndHl
  /-- `BIT 6,A` (R193) -/
  | bit6A
  /-- `BIT 7,B` (R193) -/
  | bit7B
  /-- `BIT 7,C` (R193) -/
  | bit7C
  /-- `BIT 7,D` (R193) -/
  | bit7D
  /-- `BIT 7,E` (R193) -/
  | bit7E
  /-- `BIT 7,H` (R193) -/
  | bit7H
  /-- `BIT 7,L` (R193) -/
  | bit7L
  /-- `BIT 7,(HL)` (R193) -/
  | bit7IndHl
  /-- `BIT 7,A` (R193) -/
  | bit7A
  /-- `RES 0,B` (R194) -/
  | res0B
  /-- `RES 0,C` (R194) -/
  | res0C
  /-- `RES 0,D` (R194) -/
  | res0D
  /-- `RES 0,E` (R194) -/
  | res0E
  /-- `RES 0,H` (R194) -/
  | res0H
  /-- `RES 0,L` (R194) -/
  | res0L
  /-- `RES 0,(HL)` (R194) -/
  | res0IndHl
  /-- `RES 0,A` (R194) -/
  | res0A
  /-- `RES 1,B` (R194) -/
  | res1B
  /-- `RES 1,C` (R194) -/
  | res1C
  /-- `RES 1,D` (R194) -/
  | res1D
  /-- `RES 1,E` (R194) -/
  | res1E
  /-- `RES 1,H` (R194) -/
  | res1H
  /-- `RES 1,L` (R194) -/
  | res1L
  /-- `RES 1,(HL)` (R194) -/
  | res1IndHl
  /-- `RES 1,A` (R194) -/
  | res1A
  /-- `RES 2,B` (R194) -/
  | res2B
  /-- `RES 2,C` (R194) -/
  | res2C
  /-- `RES 2,D` (R194) -/
  | res2D
  /-- `RES 2,E` (R194) -/
  | res2E
  /-- `RES 2,H` (R194) -/
  | res2H
  /-- `RES 2,L` (R194) -/
  | res2L
  /-- `RES 2,(HL)` (R194) -/
  | res2IndHl
  /-- `RES 2,A` (R194) -/
  | res2A
  /-- `RES 3,B` (R194) -/
  | res3B
  /-- `RES 3,C` (R194) -/
  | res3C
  /-- `RES 3,D` (R194) -/
  | res3D
  /-- `RES 3,E` (R194) -/
  | res3E
  /-- `RES 3,H` (R194) -/
  | res3H
  /-- `RES 3,L` (R194) -/
  | res3L
  /-- `RES 3,(HL)` (R194) -/
  | res3IndHl
  /-- `RES 3,A` (R194) -/
  | res3A
  /-- `RES 4,B` (R194) -/
  | res4B
  /-- `RES 4,C` (R194) -/
  | res4C
  /-- `RES 4,D` (R194) -/
  | res4D
  /-- `RES 4,E` (R194) -/
  | res4E
  /-- `RES 4,H` (R194) -/
  | res4H
  /-- `RES 4,L` (R194) -/
  | res4L
  /-- `RES 4,(HL)` (R194) -/
  | res4IndHl
  /-- `RES 4,A` (R194) -/
  | res4A
  /-- `RES 5,B` (R194) -/
  | res5B
  /-- `RES 5,C` (R194) -/
  | res5C
  /-- `RES 5,D` (R194) -/
  | res5D
  /-- `RES 5,E` (R194) -/
  | res5E
  /-- `RES 5,H` (R194) -/
  | res5H
  /-- `RES 5,L` (R194) -/
  | res5L
  /-- `RES 5,(HL)` (R194) -/
  | res5IndHl
  /-- `RES 5,A` (R194) -/
  | res5A
  /-- `RES 6,B` (R194) -/
  | res6B
  /-- `RES 6,C` (R194) -/
  | res6C
  /-- `RES 6,D` (R194) -/
  | res6D
  /-- `RES 6,E` (R194) -/
  | res6E
  /-- `RES 6,H` (R194) -/
  | res6H
  /-- `RES 6,L` (R194) -/
  | res6L
  /-- `RES 6,(HL)` (R194) -/
  | res6IndHl
  /-- `RES 6,A` (R194) -/
  | res6A
  /-- `RES 7,B` (R194) -/
  | res7B
  /-- `RES 7,C` (R194) -/
  | res7C
  /-- `RES 7,D` (R194) -/
  | res7D
  /-- `RES 7,E` (R194) -/
  | res7E
  /-- `RES 7,H` (R194) -/
  | res7H
  /-- `RES 7,L` (R194) -/
  | res7L
  /-- `RES 7,(HL)` (R194) -/
  | res7IndHl
  /-- `RES 7,A` (R194) -/
  | res7A
  /-- `SET 0,B` (R195) -/
  | set0B
  /-- `SET 0,C` (R195) -/
  | set0C
  /-- `SET 0,D` (R195) -/
  | set0D
  /-- `SET 0,E` (R195) -/
  | set0E
  /-- `SET 0,H` (R195) -/
  | set0H
  /-- `SET 0,L` (R195) -/
  | set0L
  /-- `SET 0,(HL)` (R195) -/
  | set0IndHl
  /-- `SET 0,A` (R195) -/
  | set0A
  /-- `SET 1,B` (R195) -/
  | set1B
  /-- `SET 1,C` (R195) -/
  | set1C
  /-- `SET 1,D` (R195) -/
  | set1D
  /-- `SET 1,E` (R195) -/
  | set1E
  /-- `SET 1,H` (R195) -/
  | set1H
  /-- `SET 1,L` (R195) -/
  | set1L
  /-- `SET 1,(HL)` (R195) -/
  | set1IndHl
  /-- `SET 1,A` (R195) -/
  | set1A
  /-- `SET 2,B` (R195) -/
  | set2B
  /-- `SET 2,C` (R195) -/
  | set2C
  /-- `SET 2,D` (R195) -/
  | set2D
  /-- `SET 2,E` (R195) -/
  | set2E
  /-- `SET 2,H` (R195) -/
  | set2H
  /-- `SET 2,L` (R195) -/
  | set2L
  /-- `SET 2,(HL)` (R195) -/
  | set2IndHl
  /-- `SET 2,A` (R195) -/
  | set2A
  /-- `SET 3,B` (R195) -/
  | set3B
  /-- `SET 3,C` (R195) -/
  | set3C
  /-- `SET 3,D` (R195) -/
  | set3D
  /-- `SET 3,E` (R195) -/
  | set3E
  /-- `SET 3,H` (R195) -/
  | set3H
  /-- `SET 3,L` (R195) -/
  | set3L
  /-- `SET 3,(HL)` (R195) -/
  | set3IndHl
  /-- `SET 3,A` (R195) -/
  | set3A
  /-- `SET 4,B` (R195) -/
  | set4B
  /-- `SET 4,C` (R195) -/
  | set4C
  /-- `SET 4,D` (R195) -/
  | set4D
  /-- `SET 4,E` (R195) -/
  | set4E
  /-- `SET 4,H` (R195) -/
  | set4H
  /-- `SET 4,L` (R195) -/
  | set4L
  /-- `SET 4,(HL)` (R195) -/
  | set4IndHl
  /-- `SET 4,A` (R195) -/
  | set4A
  /-- `SET 5,B` (R195) -/
  | set5B
  /-- `SET 5,C` (R195) -/
  | set5C
  /-- `SET 5,D` (R195) -/
  | set5D
  /-- `SET 5,E` (R195) -/
  | set5E
  /-- `SET 5,H` (R195) -/
  | set5H
  /-- `SET 5,L` (R195) -/
  | set5L
  /-- `SET 5,(HL)` (R195) -/
  | set5IndHl
  /-- `SET 5,A` (R195) -/
  | set5A
  /-- `SET 6,B` (R195) -/
  | set6B
  /-- `SET 6,C` (R195) -/
  | set6C
  /-- `SET 6,D` (R195) -/
  | set6D
  /-- `SET 6,E` (R195) -/
  | set6E
  /-- `SET 6,H` (R195) -/
  | set6H
  /-- `SET 6,L` (R195) -/
  | set6L
  /-- `SET 6,(HL)` (R195) -/
  | set6IndHl
  /-- `SET 6,A` (R195) -/
  | set6A
  /-- `SET 7,B` (R195) -/
  | set7B
  /-- `SET 7,C` (R195) -/
  | set7C
  /-- `SET 7,D` (R195) -/
  | set7D
  /-- `SET 7,E` (R195) -/
  | set7E
  /-- `SET 7,H` (R195) -/
  | set7H
  /-- `SET 7,L` (R195) -/
  | set7L
  /-- `SET 7,(HL)` (R195) -/
  | set7IndHl
  /-- `SET 7,A` (R195) -/
  | set7A
deriving DecidableEq, Repr

/-- `LD r,r'` (R101) -/
def Instr.ldRegReg (dst src : Reg8) : Instr :=
  match dst, src with
  | .b, .b => .ldBB
  | .b, .c => .ldBC
  | .b, .d => .ldBD
  | .b, .e => .ldBE
  | .b, .h => .ldBH
  | .b, .l => .ldBL
  | .b, .a => .ldBA
  | .c, .b => .ldCB
  | .c, .c => .ldCC
  | .c, .d => .ldCD
  | .c, .e => .ldCE
  | .c, .h => .ldCH
  | .c, .l => .ldCL
  | .c, .a => .ldCA
  | .d, .b => .ldDB
  | .d, .c => .ldDC
  | .d, .d => .ldDD
  | .d, .e => .ldDE
  | .d, .h => .ldDH
  | .d, .l => .ldDL
  | .d, .a => .ldDA
  | .e, .b => .ldEB
  | .e, .c => .ldEC
  | .e, .d => .ldED
  | .e, .e => .ldEE
  | .e, .h => .ldEH
  | .e, .l => .ldEL
  | .e, .a => .ldEA
  | .h, .b => .ldHB
  | .h, .c => .ldHC
  | .h, .d => .ldHD
  | .h, .e => .ldHE
  | .h, .h => .ldHH
  | .h, .l => .ldHL
  | .h, .a => .ldHA
  | .l, .b => .ldLB
  | .l, .c => .ldLC
  | .l, .d => .ldLD
  | .l, .e => .ldLE
  | .l, .h => .ldLH
  | .l, .l => .ldLL
  | .l, .a => .ldLA
  | .a, .b => .ldAB
  | .a, .c => .ldAC
  | .a, .d => .ldAD
  | .a, .e => .ldAE
  | .a, .h => .ldAH
  | .a, .l => .ldAL
  | .a, .a => .ldAA

/-- `LD r,d8` (R102) -/
def Instr.ldRegImm (dst : Reg8) (v : Byte) : Instr :=
  match dst with
  | .b => .ldBD8 v
  | .c => .ldCD8 v
  | .d => .ldDD8 v
  | .e => .ldED8 v
  | .h => .ldHD8 v
  | .l => .ldLD8 v
  | .a => .ldAD8 v

/-- `LD r,(HL)` (R103) -/
def Instr.ldRegIndHl (dst : Reg8) : Instr :=
  match dst with
  | .b => .ldBIndHl
  | .c => .ldCIndHl
  | .d => .ldDIndHl
  | .e => .ldEIndHl
  | .h => .ldHIndHl
  | .l => .ldLIndHl
  | .a => .ldAIndHl

/-- `LD (HL),r` (R104) -/
def Instr.ldIndHlReg (src : Reg8) : Instr :=
  match src with
  | .b => .ldIndHlB
  | .c => .ldIndHlC
  | .d => .ldIndHlD
  | .e => .ldIndHlE
  | .h => .ldIndHlH
  | .l => .ldIndHlL
  | .a => .ldIndHlA

/-- `LD rr,d16` (R131) -/
def Instr.ldReg16Imm (rr : Reg16) (v : Word) : Instr :=
  match rr with
  | .bc => .ldBcD16 v
  | .de => .ldDeD16 v
  | .hl => .ldHlD16 v
  | .sp => .ldSpD16 v

/-- `INC rr` (R172) -/
def Instr.incReg16 (rr : Reg16) : Instr :=
  match rr with
  | .bc => .incBc
  | .de => .incDe
  | .hl => .incHl
  | .sp => .incSp

/-- `DEC rr` (R173) -/
def Instr.decReg16 (rr : Reg16) : Instr :=
  match rr with
  | .bc => .decBc
  | .de => .decDe
  | .hl => .decHl
  | .sp => .decSp

/-- `ADD HL,rr` (R171) -/
def Instr.addHl (rr : Reg16) : Instr :=
  match rr with
  | .bc => .addHlBc
  | .de => .addHlDe
  | .hl => .addHlHl
  | .sp => .addHlSp

/-- `PUSH rr` (R134) -/
def Instr.push (p : StackPair) : Instr :=
  match p with
  | .bc => .pushBc
  | .de => .pushDe
  | .hl => .pushHl
  | .af => .pushAf

/-- `POP rr` (R135, R136) -/
def Instr.pop (p : StackPair) : Instr :=
  match p with
  | .bc => .popBc
  | .de => .popDe
  | .hl => .popHl
  | .af => .popAf

/-- `op A,r` and `op A,(HL)` (R141) -/
def Instr.alu (op : AluOp) (x : Operand8) : Instr :=
  match op, x with
  | .add, .reg .b => .addAB
  | .add, .reg .c => .addAC
  | .add, .reg .d => .addAD
  | .add, .reg .e => .addAE
  | .add, .reg .h => .addAH
  | .add, .reg .l => .addAL
  | .add, .indHl => .addAIndHl
  | .add, .reg .a => .addAA
  | .adc, .reg .b => .adcAB
  | .adc, .reg .c => .adcAC
  | .adc, .reg .d => .adcAD
  | .adc, .reg .e => .adcAE
  | .adc, .reg .h => .adcAH
  | .adc, .reg .l => .adcAL
  | .adc, .indHl => .adcAIndHl
  | .adc, .reg .a => .adcAA
  | .sub, .reg .b => .subAB
  | .sub, .reg .c => .subAC
  | .sub, .reg .d => .subAD
  | .sub, .reg .e => .subAE
  | .sub, .reg .h => .subAH
  | .sub, .reg .l => .subAL
  | .sub, .indHl => .subAIndHl
  | .sub, .reg .a => .subAA
  | .sbc, .reg .b => .sbcAB
  | .sbc, .reg .c => .sbcAC
  | .sbc, .reg .d => .sbcAD
  | .sbc, .reg .e => .sbcAE
  | .sbc, .reg .h => .sbcAH
  | .sbc, .reg .l => .sbcAL
  | .sbc, .indHl => .sbcAIndHl
  | .sbc, .reg .a => .sbcAA
  | .and, .reg .b => .andAB
  | .and, .reg .c => .andAC
  | .and, .reg .d => .andAD
  | .and, .reg .e => .andAE
  | .and, .reg .h => .andAH
  | .and, .reg .l => .andAL
  | .and, .indHl => .andAIndHl
  | .and, .reg .a => .andAA
  | .xor, .reg .b => .xorAB
  | .xor, .reg .c => .xorAC
  | .xor, .reg .d => .xorAD
  | .xor, .reg .e => .xorAE
  | .xor, .reg .h => .xorAH
  | .xor, .reg .l => .xorAL
  | .xor, .indHl => .xorAIndHl
  | .xor, .reg .a => .xorAA
  | .or, .reg .b => .orAB
  | .or, .reg .c => .orAC
  | .or, .reg .d => .orAD
  | .or, .reg .e => .orAE
  | .or, .reg .h => .orAH
  | .or, .reg .l => .orAL
  | .or, .indHl => .orAIndHl
  | .or, .reg .a => .orAA
  | .cp, .reg .b => .cpAB
  | .cp, .reg .c => .cpAC
  | .cp, .reg .d => .cpAD
  | .cp, .reg .e => .cpAE
  | .cp, .reg .h => .cpAH
  | .cp, .reg .l => .cpAL
  | .cp, .indHl => .cpAIndHl
  | .cp, .reg .a => .cpAA

/-- `op A,d8` (R141) -/
def Instr.aluImm (op : AluOp) (v : Byte) : Instr :=
  match op with
  | .add => .addAD8 v
  | .adc => .adcAD8 v
  | .sub => .subAD8 v
  | .sbc => .sbcAD8 v
  | .and => .andAD8 v
  | .xor => .xorAD8 v
  | .or => .orAD8 v
  | .cp => .cpAD8 v

/-- `INC r` and `INC (HL)` (R150, R151) -/
def Instr.inc8 (x : Operand8) : Instr :=
  match x with
  | .reg .b => .incB
  | .reg .c => .incC
  | .reg .d => .incD
  | .reg .e => .incE
  | .reg .h => .incH
  | .reg .l => .incL
  | .indHl => .incIndHl
  | .reg .a => .incA

/-- `DEC r` and `DEC (HL)` (R152, R153) -/
def Instr.dec8 (x : Operand8) : Instr :=
  match x with
  | .reg .b => .decB
  | .reg .c => .decC
  | .reg .d => .decD
  | .reg .e => .decE
  | .reg .h => .decH
  | .reg .l => .decL
  | .indHl => .decIndHl
  | .reg .a => .decA

/-- The extended rotates and shifts (R185 to R192) -/
def Instr.rot (op : RotOp) (x : Operand8) : Instr :=
  match op, x with
  | .rlc, .reg .b => .rlcB
  | .rlc, .reg .c => .rlcC
  | .rlc, .reg .d => .rlcD
  | .rlc, .reg .e => .rlcE
  | .rlc, .reg .h => .rlcH
  | .rlc, .reg .l => .rlcL
  | .rlc, .indHl => .rlcIndHl
  | .rlc, .reg .a => .rlcA
  | .rrc, .reg .b => .rrcB
  | .rrc, .reg .c => .rrcC
  | .rrc, .reg .d => .rrcD
  | .rrc, .reg .e => .rrcE
  | .rrc, .reg .h => .rrcH
  | .rrc, .reg .l => .rrcL
  | .rrc, .indHl => .rrcIndHl
  | .rrc, .reg .a => .rrcA
  | .rl, .reg .b => .rlB
  | .rl, .reg .c => .rlC
  | .rl, .reg .d => .rlD
  | .rl, .reg .e => .rlE
  | .rl, .reg .h => .rlH
  | .rl, .reg .l => .rlL
  | .rl, .indHl => .rlIndHl
  | .rl, .reg .a => .rlA
  | .rr, .reg .b => .rrB
  | .rr, .reg .c => .rrC
  | .rr, .reg .d => .rrD
  | .rr, .reg .e => .rrE
  | .rr, .reg .h => .rrH
  | .rr, .reg .l => .rrL
  | .rr, .indHl => .rrIndHl
  | .rr, .reg .a => .rrA
  | .sla, .reg .b => .slaB
  | .sla, .reg .c => .slaC
  | .sla, .reg .d => .slaD
  | .sla, .reg .e => .slaE
  | .sla, .reg .h => .slaH
  | .sla, .reg .l => .slaL
  | .sla, .indHl => .slaIndHl
  | .sla, .reg .a => .slaA
  | .sra, .reg .b => .sraB
  | .sra, .reg .c => .sraC
  | .sra, .reg .d => .sraD
  | .sra, .reg .e => .sraE
  | .sra, .reg .h => .sraH
  | .sra, .reg .l => .sraL
  | .sra, .indHl => .sraIndHl
  | .sra, .reg .a => .sraA
  | .swap, .reg .b => .swapB
  | .swap, .reg .c => .swapC
  | .swap, .reg .d => .swapD
  | .swap, .reg .e => .swapE
  | .swap, .reg .h => .swapH
  | .swap, .reg .l => .swapL
  | .swap, .indHl => .swapIndHl
  | .swap, .reg .a => .swapA
  | .srl, .reg .b => .srlB
  | .srl, .reg .c => .srlC
  | .srl, .reg .d => .srlD
  | .srl, .reg .e => .srlE
  | .srl, .reg .h => .srlH
  | .srl, .reg .l => .srlL
  | .srl, .indHl => .srlIndHl
  | .srl, .reg .a => .srlA

/-- `BIT n,r8` (R193) -/
def Instr.bit (n : Fin 8) (x : Operand8) : Instr :=
  match n, x with
  | 0, .reg .b => .bit0B
  | 0, .reg .c => .bit0C
  | 0, .reg .d => .bit0D
  | 0, .reg .e => .bit0E
  | 0, .reg .h => .bit0H
  | 0, .reg .l => .bit0L
  | 0, .indHl => .bit0IndHl
  | 0, .reg .a => .bit0A
  | 1, .reg .b => .bit1B
  | 1, .reg .c => .bit1C
  | 1, .reg .d => .bit1D
  | 1, .reg .e => .bit1E
  | 1, .reg .h => .bit1H
  | 1, .reg .l => .bit1L
  | 1, .indHl => .bit1IndHl
  | 1, .reg .a => .bit1A
  | 2, .reg .b => .bit2B
  | 2, .reg .c => .bit2C
  | 2, .reg .d => .bit2D
  | 2, .reg .e => .bit2E
  | 2, .reg .h => .bit2H
  | 2, .reg .l => .bit2L
  | 2, .indHl => .bit2IndHl
  | 2, .reg .a => .bit2A
  | 3, .reg .b => .bit3B
  | 3, .reg .c => .bit3C
  | 3, .reg .d => .bit3D
  | 3, .reg .e => .bit3E
  | 3, .reg .h => .bit3H
  | 3, .reg .l => .bit3L
  | 3, .indHl => .bit3IndHl
  | 3, .reg .a => .bit3A
  | 4, .reg .b => .bit4B
  | 4, .reg .c => .bit4C
  | 4, .reg .d => .bit4D
  | 4, .reg .e => .bit4E
  | 4, .reg .h => .bit4H
  | 4, .reg .l => .bit4L
  | 4, .indHl => .bit4IndHl
  | 4, .reg .a => .bit4A
  | 5, .reg .b => .bit5B
  | 5, .reg .c => .bit5C
  | 5, .reg .d => .bit5D
  | 5, .reg .e => .bit5E
  | 5, .reg .h => .bit5H
  | 5, .reg .l => .bit5L
  | 5, .indHl => .bit5IndHl
  | 5, .reg .a => .bit5A
  | 6, .reg .b => .bit6B
  | 6, .reg .c => .bit6C
  | 6, .reg .d => .bit6D
  | 6, .reg .e => .bit6E
  | 6, .reg .h => .bit6H
  | 6, .reg .l => .bit6L
  | 6, .indHl => .bit6IndHl
  | 6, .reg .a => .bit6A
  | 7, .reg .b => .bit7B
  | 7, .reg .c => .bit7C
  | 7, .reg .d => .bit7D
  | 7, .reg .e => .bit7E
  | 7, .reg .h => .bit7H
  | 7, .reg .l => .bit7L
  | 7, .indHl => .bit7IndHl
  | 7, .reg .a => .bit7A

/-- `RES n,r8` (R194) -/
def Instr.res (n : Fin 8) (x : Operand8) : Instr :=
  match n, x with
  | 0, .reg .b => .res0B
  | 0, .reg .c => .res0C
  | 0, .reg .d => .res0D
  | 0, .reg .e => .res0E
  | 0, .reg .h => .res0H
  | 0, .reg .l => .res0L
  | 0, .indHl => .res0IndHl
  | 0, .reg .a => .res0A
  | 1, .reg .b => .res1B
  | 1, .reg .c => .res1C
  | 1, .reg .d => .res1D
  | 1, .reg .e => .res1E
  | 1, .reg .h => .res1H
  | 1, .reg .l => .res1L
  | 1, .indHl => .res1IndHl
  | 1, .reg .a => .res1A
  | 2, .reg .b => .res2B
  | 2, .reg .c => .res2C
  | 2, .reg .d => .res2D
  | 2, .reg .e => .res2E
  | 2, .reg .h => .res2H
  | 2, .reg .l => .res2L
  | 2, .indHl => .res2IndHl
  | 2, .reg .a => .res2A
  | 3, .reg .b => .res3B
  | 3, .reg .c => .res3C
  | 3, .reg .d => .res3D
  | 3, .reg .e => .res3E
  | 3, .reg .h => .res3H
  | 3, .reg .l => .res3L
  | 3, .indHl => .res3IndHl
  | 3, .reg .a => .res3A
  | 4, .reg .b => .res4B
  | 4, .reg .c => .res4C
  | 4, .reg .d => .res4D
  | 4, .reg .e => .res4E
  | 4, .reg .h => .res4H
  | 4, .reg .l => .res4L
  | 4, .indHl => .res4IndHl
  | 4, .reg .a => .res4A
  | 5, .reg .b => .res5B
  | 5, .reg .c => .res5C
  | 5, .reg .d => .res5D
  | 5, .reg .e => .res5E
  | 5, .reg .h => .res5H
  | 5, .reg .l => .res5L
  | 5, .indHl => .res5IndHl
  | 5, .reg .a => .res5A
  | 6, .reg .b => .res6B
  | 6, .reg .c => .res6C
  | 6, .reg .d => .res6D
  | 6, .reg .e => .res6E
  | 6, .reg .h => .res6H
  | 6, .reg .l => .res6L
  | 6, .indHl => .res6IndHl
  | 6, .reg .a => .res6A
  | 7, .reg .b => .res7B
  | 7, .reg .c => .res7C
  | 7, .reg .d => .res7D
  | 7, .reg .e => .res7E
  | 7, .reg .h => .res7H
  | 7, .reg .l => .res7L
  | 7, .indHl => .res7IndHl
  | 7, .reg .a => .res7A

/-- `SET n,r8` (R195) -/
def Instr.set (n : Fin 8) (x : Operand8) : Instr :=
  match n, x with
  | 0, .reg .b => .set0B
  | 0, .reg .c => .set0C
  | 0, .reg .d => .set0D
  | 0, .reg .e => .set0E
  | 0, .reg .h => .set0H
  | 0, .reg .l => .set0L
  | 0, .indHl => .set0IndHl
  | 0, .reg .a => .set0A
  | 1, .reg .b => .set1B
  | 1, .reg .c => .set1C
  | 1, .reg .d => .set1D
  | 1, .reg .e => .set1E
  | 1, .reg .h => .set1H
  | 1, .reg .l => .set1L
  | 1, .indHl => .set1IndHl
  | 1, .reg .a => .set1A
  | 2, .reg .b => .set2B
  | 2, .reg .c => .set2C
  | 2, .reg .d => .set2D
  | 2, .reg .e => .set2E
  | 2, .reg .h => .set2H
  | 2, .reg .l => .set2L
  | 2, .indHl => .set2IndHl
  | 2, .reg .a => .set2A
  | 3, .reg .b => .set3B
  | 3, .reg .c => .set3C
  | 3, .reg .d => .set3D
  | 3, .reg .e => .set3E
  | 3, .reg .h => .set3H
  | 3, .reg .l => .set3L
  | 3, .indHl => .set3IndHl
  | 3, .reg .a => .set3A
  | 4, .reg .b => .set4B
  | 4, .reg .c => .set4C
  | 4, .reg .d => .set4D
  | 4, .reg .e => .set4E
  | 4, .reg .h => .set4H
  | 4, .reg .l => .set4L
  | 4, .indHl => .set4IndHl
  | 4, .reg .a => .set4A
  | 5, .reg .b => .set5B
  | 5, .reg .c => .set5C
  | 5, .reg .d => .set5D
  | 5, .reg .e => .set5E
  | 5, .reg .h => .set5H
  | 5, .reg .l => .set5L
  | 5, .indHl => .set5IndHl
  | 5, .reg .a => .set5A
  | 6, .reg .b => .set6B
  | 6, .reg .c => .set6C
  | 6, .reg .d => .set6D
  | 6, .reg .e => .set6E
  | 6, .reg .h => .set6H
  | 6, .reg .l => .set6L
  | 6, .indHl => .set6IndHl
  | 6, .reg .a => .set6A
  | 7, .reg .b => .set7B
  | 7, .reg .c => .set7C
  | 7, .reg .d => .set7D
  | 7, .reg .e => .set7E
  | 7, .reg .h => .set7H
  | 7, .reg .l => .set7L
  | 7, .indHl => .set7IndHl
  | 7, .reg .a => .set7A

/-- `JP cc,a16` (R202) -/
def Instr.jpCond (cc : Cond) (a : Word) : Instr :=
  match cc with
  | .nz => .jpNzA16 a
  | .z => .jpZA16 a
  | .nc => .jpNcA16 a
  | .c => .jpCA16 a

/-- `JR cc,e8` (R205) -/
def Instr.jrCond (cc : Cond) (e : Byte) : Instr :=
  match cc with
  | .nz => .jrNzE8 e
  | .z => .jrZE8 e
  | .nc => .jrNcE8 e
  | .c => .jrCE8 e

/-- `CALL cc,a16` (R207) -/
def Instr.callCond (cc : Cond) (a : Word) : Instr :=
  match cc with
  | .nz => .callNzA16 a
  | .z => .callZA16 a
  | .nc => .callNcA16 a
  | .c => .callCA16 a

/-- `RET cc` (R209) -/
def Instr.retCond (cc : Cond) : Instr :=
  match cc with
  | .nz => .retNz
  | .z => .retZ
  | .nc => .retNc
  | .c => .retC

/-- `RST 8*y` (R211) -/
def Instr.rst (y : Fin 8) : Instr :=
  match y with
  | 0 => .rst00
  | 1 => .rst08
  | 2 => .rst10
  | 3 => .rst18
  | 4 => .rst20
  | 5 => .rst28
  | 6 => .rst30
  | 7 => .rst38

/-- The eleven unresolved opcodes with the row each is (R84, R226). -/
def Instr.unresolved : List (Byte × Instr) :=
  [(0xD3#8, .illegalD3), (0xDB#8, .illegalDB), (0xDD#8, .illegalDD), (0xE3#8, .illegalE3),
   (0xE4#8, .illegalE4), (0xEB#8, .illegalEB), (0xEC#8, .illegalEC),
   (0xED#8, .illegalED), (0xF4#8, .illegalF4), (0xFC#8, .illegalFC), (0xFD#8, .illegalFD)]

end Sys2Proof
end

