-- ==== Sys2Proof/Machine/Operands.lean ====
section
/-! DEFINITION. Every operand form of the instruction set: registers by code, pairs as views of their halves
(spec/10_state.md R22, R23), the (HL) operand (spec/30_encoding.md R74) and the 0xFF00 page (R81). -/

namespace Sys2Proof.Machine

/-- `x[i]` (R74). -/
def State.reg (s : State) : Reg8 → Byte
  | .b => s.b
  | .c => s.c
  | .d => s.d
  | .e => s.e
  | .h => s.h
  | .l => s.l
  | .a => s.a

/-- `x[i] <- v` (R74). -/
def State.setReg (s : State) (r : Reg8) (v : Byte) : State :=
  match r with
  | .b => { s with b := v }
  | .c => { s with c := v }
  | .d => { s with d := v }
  | .e => { s with e := v }
  | .h => { s with h := v }
  | .l => { s with l := v }
  | .a => { s with a := v }

/-- `BC = {B, C}` (R22). -/
def State.bc (s : State) : Word := join s.b s.c

/-- `DE = {D, E}` (R22). -/
def State.de (s : State) : Word := join s.d s.e

/-- `HL = {H, L}` (R22). -/
def State.hl (s : State) : Word := join s.h s.l

/-- `HL <- v`: `H <- hi(v); L <- lo(v)` (R22). -/
def State.setHl (s : State) (v : Word) : State := { s with h := hi v, l := lo v }

/-- `rr[p]` of table `r16` (R75). -/
def State.reg16 (s : State) : Reg16 → Word
  | .bc => s.bc
  | .de => s.de
  | .hl => s.hl
  | .sp => s.sp

/-- `rr[p] <- v` of table `r16` (R22, R75). -/
def State.setReg16 (s : State) (rr : Reg16) (v : Word) : State :=
  match rr with
  | .bc => { s with b := hi v, c := lo v }
  | .de => { s with d := hi v, e := lo v }
  | .hl => s.setHl v
  | .sp => { s with sp := v }

/-- `rr[p]` of table `r16stk`; `AF = {A, F}` (R23, R76). -/
def State.stackPair (s : State) : StackPair → Word
  | .bc => s.bc
  | .de => s.de
  | .hl => s.hl
  | .af => join s.a s.f

/-- `rr[p] <- v` of table `r16stk`; for AF, `A <- hi(v); F <- lo(v) & 0xF0` (R23, R135, R136). -/
def State.setStackPair (s : State) (p : StackPair) (v : Word) : State :=
  match p with
  | .bc => { s with b := hi v, c := lo v }
  | .de => { s with d := hi v, e := lo v }
  | .hl => s.setHl v
  | .af => { s with a := hi v, f := lo v &&& 0xF0#8 }

/-- `R8get(i)` (R74). -/
def readR8 (s : State) : Operand8 → Res Byte
  | .reg r => .next (s.reg r, s)
  | .indHl => memRead s s.hl

/-- `R8set(i, v)` (R74). -/
def writeR8 (s : State) (x : Operand8) (v : Byte) : Out :=
  match x with
  | .reg r => .next (s.setReg r v)
  | .indHl => memWrite s s.hl v

/-- The cost of an instruction that has a register form and an (HL) form. -/
def operandCost (x : Operand8) (regCost memCost : Nat) : Nat :=
  match x with
  | .reg _ => regCost
  | .indHl => memCost

/-- `0xFF00 + zext_16(n)`, the page of `LDH` (R81). -/
def highPage (n : Byte) : Word := 0xFF00#16 + zext16 n

/-- Table `r8` by its 3-bit code (R74). -/
def operand8OfCode : Fin 8 → Operand8
  | 0 => .reg .b
  | 1 => .reg .c
  | 2 => .reg .d
  | 3 => .reg .e
  | 4 => .reg .h
  | 5 => .reg .l
  | 6 => .indHl
  | 7 => .reg .a

/-- Table `rot` by its 3-bit code (R80). -/
def rotOpOfCode : Fin 8 → RotOp
  | 0 => .rlc
  | 1 => .rrc
  | 2 => .rl
  | 3 => .rr
  | 4 => .sla
  | 5 => .sra
  | 6 => .swap
  | 7 => .srl

end Sys2Proof.Machine
end

