-- ==== Sys2Proof/Machine/Flags.lean ====
section
/-! DEFINITION. The flags (spec/10_state.md R24 to R28) and every computation that produces them: the 8-bit ALU
(spec/42_alu8.md), the 16-bit ALU (spec/43_alu16.md), rotates and shifts (spec/44_rotate_shift_bit.md), and the
condition test (spec/45_control.md R200). -/

namespace Sys2Proof.Machine

/-- `F.Z = F[7]` (R25). -/
def State.flagZ (s : State) : Bool := s.f.getLsbD 7

/-- `F.N = F[6]` (R25). -/
def State.flagN (s : State) : Bool := s.f.getLsbD 6

/-- `F.H = F[5]` (R25). -/
def State.flagH (s : State) : Bool := s.f.getLsbD 5

/-- `F.C = F[4]` (R25). -/
def State.flagC (s : State) : Bool := s.f.getLsbD 4

/-- The byte F with these flags and a zero low nibble (R24, R25). -/
def flagByte (z n h c : Bool) : Byte :=
  (if z then 0x80#8 else 0#8) ||| (if n then 0x40#8 else 0#8) |||
  (if h then 0x20#8 else 0#8) ||| (if c then 0x10#8 else 0#8)

/-- `Flags(z, n, h, c)`: `none` is the spec's `-`, the flag keeps its value (R27). -/
def State.setFlags (s : State) (z n h c : Option Bool) : State :=
  { s with f := flagByte (z.getD s.flagZ) (n.getD s.flagN) (h.getD s.flagH) (c.getD s.flagC) }

/-- The result of an 8-bit computation with the arguments of its `Flags`. -/
structure Result8 where
  value : Byte
  z : Option Bool
  n : Option Bool
  h : Option Bool
  c : Option Bool
deriving DecidableEq, Repr

/-- The result of a 16-bit computation with the arguments of its `Flags`. -/
structure Result16 where
  value : Word
  z : Option Bool
  n : Option Bool
  h : Option Bool
  c : Option Bool
deriving DecidableEq, Repr

/-- Write the flags of an 8-bit result. -/
def State.setFlagsOf (s : State) (r : Result8) : State := s.setFlags r.z r.n r.h r.c

/-- Addition with carry in `k` (R142, R143): flags Z0HC. -/
def add8 (x v : Byte) (k : Nat) : Result8 :=
  let sum := x.toNat + v.toNat + k
  let r := BitVec.ofNat 8 sum
  { value := r
    z := some (decide (r = 0#8))
    n := some false
    h := some (decide (lowNibble x + lowNibble v + k > 0x0F))
    c := some (decide (sum > 0xFF)) }

/-- Subtraction with borrow in `k` (R144, R145): flags Z1HC, H and C are borrows. -/
def sub8 (x v : Byte) (k : Nat) : Result8 :=
  let diff : Int := (x.toNat : Int) - (v.toNat : Int) - (k : Int)
  let r := BitVec.ofInt 8 diff
  { value := r
    z := some (decide (r = 0#8))
    n := some true
    h := some (decide (lowNibble x < lowNibble v + k))
    c := some (decide (x.toNat < v.toNat + k)) }

/-- A bitwise result: Z computed, N and C cleared, H as given (R146 to R148). -/
def logic8 (r : Byte) (half : Bool) : Result8 :=
  { value := r, z := some (decide (r = 0#8)), n := some false, h := some half, c := some false }

/-- The eight operations on A and `v` with the carry flag `k` (R79, R142 to R149). `CP` keeps A (R149). -/
def alu8 (op : AluOp) (x v : Byte) (k : Bool) : Result8 :=
  match op with
  | .add => add8 x v 0
  | .adc => add8 x v k.toNat
  | .sub => sub8 x v 0
  | .sbc => sub8 x v k.toNat
  | .and => logic8 (x &&& v) true
  | .xor => logic8 (x ^^^ v) false
  | .or => logic8 (x ||| v) false
  | .cp => { sub8 x v 0 with value := x }

/-- Increment: flags Z0H-, C unaffected (R150, R151). -/
def incr8 (o : Byte) : Result8 :=
  let r := o + 1#8
  { value := r, z := some (decide (r = 0#8)), n := some false
    h := some (decide (lowNibble o = 0x0F)), c := none }

/-- Decrement: flags Z1H-, C unaffected (R152, R153). -/
def decr8 (o : Byte) : Result8 :=
  let r := o - 1#8
  { value := r, z := some (decide (r = 0#8)), n := some true
    h := some (decide (lowNibble o = 0x00)), c := none }

/-- `DAA`'s correction of `x` under the flags `n`, `h`, `k` (R154): flags Z-0C. -/
def decimalAdjust (x : Byte) (n h k : Bool) : Result8 :=
  let low : Byte := if h || (!n && decide (lowNibble x > 0x09)) then 0x06#8 else 0#8
  let carry : Bool := k || (!n && decide (x.toNat > 0x99))
  let high : Byte := if carry then 0x60#8 else 0#8
  let r := if n then x - (low ||| high) else x + (low ||| high)
  { value := r, z := some (decide (r = 0#8)), n := none, h := some false, c := some carry }

/-- A rotated or shifted byte with the bit that left it: flags Z00C (R185 to R190, R192). -/
def shifted (r : Byte) (carry : Bool) : Result8 :=
  { value := r, z := some (decide (r = 0#8)), n := some false, h := some false, c := some carry }

/-- The eight rotates and shifts of the extended table, with the carry flag `k` (R80, R185 to R192). -/
def rotate (op : RotOp) (v : Byte) (k : Bool) : Result8 :=
  match op with
  | .rlc => shifted ((v <<< 1) ||| bitByte (v.getLsbD 7)) (v.getLsbD 7)
  | .rrc => shifted ((v >>> 1) ||| (bitByte (v.getLsbD 0) <<< 7)) (v.getLsbD 0)
  | .rl => shifted ((v <<< 1) ||| bitByte k) (v.getLsbD 7)
  | .rr => shifted ((v >>> 1) ||| (bitByte k <<< 7)) (v.getLsbD 0)
  | .sla => shifted (v <<< 1) (v.getLsbD 7)
  | .sra => shifted ((v >>> 1) ||| (v &&& 0x80#8)) (v.getLsbD 0)
  | .swap => shifted (((v <<< 4) &&& 0xF0#8) ||| (v >>> 4)) false
  | .srl => shifted (v >>> 1) (v.getLsbD 0)

/-- The accumulator rotates clear Z whatever the result: flags 000C (R180 to R184). -/
def rotateAcc (op : RotOp) (v : Byte) (k : Bool) : Result8 := { rotate op v k with z := some false }

/-- `ADD HL,rr`: carries out of bit 11 and bit 15, flags -0HC (R171). -/
def add16 (x v : Word) : Result16 :=
  let sum := x.toNat + v.toNat
  { value := BitVec.ofNat 16 sum, z := none, n := some false
    h := some (decide ((x &&& 0x0FFF#16).toNat + (v &&& 0x0FFF#16).toNat > 0x0FFF))
    c := some (decide (sum > 0xFFFF)) }

/-- SP plus a signed displacement: carries of the low-byte addition, flags 00HC (R137, R174; parameter
`SPE8_FLAGS` = low byte, P9). -/
def addDisplacement (x : Word) (e : Byte) : Result16 :=
  { value := x + sext16 e, z := some false, n := some false
    h := some (decide ((x &&& 0x000F#16).toNat + lowNibble e > 0x0F))
    c := some (decide ((x &&& 0x00FF#16).toNat + e.toNat > 0xFF)) }

/-- `cond(cc)` (R78, R200). -/
def State.cond (s : State) : Cond → Bool
  | .nz => !s.flagZ
  | .z => s.flagZ
  | .nc => !s.flagC
  | .c => s.flagC

end Sys2Proof.Machine
end

