-- ==== Sys2Proof/Machine/Alu16.lean ====
section
/-! DEFINITION. The 16-bit arithmetic instructions (spec/43_alu16.md). -/

namespace Sys2Proof.Machine

/-- `ADD HL,rr`, cost 2 (R171). -/
def addToHl (rr : Reg16) (s : State) : Out :=
  let r := add16 s.hl (s.reg16 rr)
  finish 2 ((s.setHl r.value).setFlags r.z r.n r.h r.c)

/-- `INC rr`, cost 2, no flag (R172). -/
def increment16 (rr : Reg16) (s : State) : Out := finish 2 (s.setReg16 rr (s.reg16 rr + 1#16))

/-- `DEC rr`, cost 2, no flag (R173). -/
def decrement16 (rr : Reg16) (s : State) : Out := finish 2 (s.setReg16 rr (s.reg16 rr - 1#16))

/-- `ADD SP,e8`, cost 4, the low-byte flags of the old SP (R174). -/
def addToSp (e : Byte) (s : State) : Out :=
  let r := addDisplacement s.sp e
  finish 4 (State.setFlags { s with sp := r.value } r.z r.n r.h r.c)

/-- `INC BC` (R172, opcode 03). -/
def execIncBc (s : State) : Out := increment16 .bc s
/-- `ADD HL,BC` (R171, opcode 09). -/
def execAddHlBc (s : State) : Out := addToHl .bc s
/-- `DEC BC` (R173, opcode 0B). -/
def execDecBc (s : State) : Out := decrement16 .bc s
/-- `INC DE` (R172, opcode 13). -/
def execIncDe (s : State) : Out := increment16 .de s
/-- `ADD HL,DE` (R171, opcode 19). -/
def execAddHlDe (s : State) : Out := addToHl .de s
/-- `DEC DE` (R173, opcode 1B). -/
def execDecDe (s : State) : Out := decrement16 .de s
/-- `INC HL` (R172, opcode 23). -/
def execIncHl (s : State) : Out := increment16 .hl s
/-- `ADD HL,HL` (R171, opcode 29). -/
def execAddHlHl (s : State) : Out := addToHl .hl s
/-- `DEC HL` (R173, opcode 2B). -/
def execDecHl (s : State) : Out := decrement16 .hl s
/-- `INC SP` (R172, opcode 33). -/
def execIncSp (s : State) : Out := increment16 .sp s
/-- `ADD HL,SP` (R171, opcode 39). -/
def execAddHlSp (s : State) : Out := addToHl .sp s
/-- `DEC SP` (R173, opcode 3B). -/
def execDecSp (s : State) : Out := decrement16 .sp s
/-- `ADD SP,e8` (R174, opcode E8). -/
def execAddSpE8 (e : Byte) (s : State) : Out := addToSp e s

end Sys2Proof.Machine
end

