-- ==== Sys2Proof/Machine/Alu8.lean ====
section
/-! DEFINITION. The 8-bit arithmetic and logic instructions (spec/42_alu8.md). Input flags are read before the new ones
are written (R140). -/

namespace Sys2Proof.Machine

/-- A and the flags take the result of `op` on the old A, `v` and the old carry (R141). -/
def applyAlu (op : AluOp) (v : Byte) (s : State) : State :=
  let r := alu8 op s.a v s.flagC
  State.setFlagsOf { s with a := r.value } r

/-- `op A,r` (cost 1) and `op A,(HL)` (cost 2) (R141). -/
def aluOperand (op : AluOp) (x : Operand8) (s : State) : Out :=
  andThen (readR8 s x) fun v t => finish (operandCost x 1 2) (applyAlu op v t)

/-- `op A,d8`, cost 2 (R141). -/
def aluImm (op : AluOp) (v : Byte) (s : State) : Out := finish 2 (applyAlu op v s)

/-- Read the operand, write the result back, then write its flags. -/
def modifyWithFlags (x : Operand8) (f : State → Byte → Result8) (cost : Nat) (s : State) : Out :=
  andThen (readR8 s x) fun v t =>
  thenDo (writeR8 t x (f t v).value) fun u => finish cost (u.setFlagsOf (f t v))

/-- `INC r` (cost 1) and `INC (HL)` (cost 3) (R150, R151). -/
def increment (x : Operand8) (s : State) : Out := modifyWithFlags x (fun _ => incr8) (operandCost x 1 3) s

/-- `DEC r` (cost 1) and `DEC (HL)` (cost 3) (R152, R153). -/
def decrement (x : Operand8) (s : State) : Out := modifyWithFlags x (fun _ => decr8) (operandCost x 1 3) s

/-- `DAA` (R154). -/
def adjustDecimal (s : State) : Out :=
  let r := decimalAdjust s.a s.flagN s.flagH s.flagC
  finish 1 (State.setFlagsOf { s with a := r.value } r)

/-- `CPL`: flags -11- (R155). -/
def complementA (s : State) : Out :=
  finish 1 (State.setFlags { s with a := s.a ^^^ 0xFF#8 } none (some true) (some true) none)

/-- `SCF`: flags -001 (R156). -/
def setCarry (s : State) : Out := finish 1 (s.setFlags none (some false) (some false) (some true))

/-- `CCF`: flags -00C (R157). -/
def complementCarry (s : State) : Out :=
  finish 1 (s.setFlags none (some false) (some false) (some (!s.flagC)))

/-- `INC B` (R150, opcode 04). -/
def execIncB (s : State) : Out := increment (.reg .b) s
/-- `DEC B` (R152, opcode 05). -/
def execDecB (s : State) : Out := decrement (.reg .b) s
/-- `INC C` (R150, opcode 0C). -/
def execIncC (s : State) : Out := increment (.reg .c) s
/-- `DEC C` (R152, opcode 0D). -/
def execDecC (s : State) : Out := decrement (.reg .c) s
/-- `INC D` (R150, opcode 14). -/
def execIncD (s : State) : Out := increment (.reg .d) s
/-- `DEC D` (R152, opcode 15). -/
def execDecD (s : State) : Out := decrement (.reg .d) s
/-- `INC E` (R150, opcode 1C). -/
def execIncE (s : State) : Out := increment (.reg .e) s
/-- `DEC E` (R152, opcode 1D). -/
def execDecE (s : State) : Out := decrement (.reg .e) s
/-- `INC H` (R150, opcode 24). -/
def execIncH (s : State) : Out := increment (.reg .h) s
/-- `DEC H` (R152, opcode 25). -/
def execDecH (s : State) : Out := decrement (.reg .h) s
/-- `DAA` (R154, opcode 27). -/
def execDaa (s : State) : Out := adjustDecimal s
/-- `INC L` (R150, opcode 2C). -/
def execIncL (s : State) : Out := increment (.reg .l) s
/-- `DEC L` (R152, opcode 2D). -/
def execDecL (s : State) : Out := decrement (.reg .l) s
/-- `CPL` (R155, opcode 2F). -/
def execCpl (s : State) : Out := complementA s
/-- `INC (HL)` (R151, opcode 34). -/
def execIncIndHl (s : State) : Out := increment .indHl s
/-- `DEC (HL)` (R153, opcode 35). -/
def execDecIndHl (s : State) : Out := decrement .indHl s
/-- `SCF` (R156, opcode 37). -/
def execScf (s : State) : Out := setCarry s
/-- `INC A` (R150, opcode 3C). -/
def execIncA (s : State) : Out := increment (.reg .a) s
/-- `DEC A` (R152, opcode 3D). -/
def execDecA (s : State) : Out := decrement (.reg .a) s
/-- `CCF` (R157, opcode 3F). -/
def execCcf (s : State) : Out := complementCarry s
/-- `ADD A,B` (R142, opcode 80). -/
def execAddAB (s : State) : Out := aluOperand .add (.reg .b) s
/-- `ADD A,C` (R142, opcode 81). -/
def execAddAC (s : State) : Out := aluOperand .add (.reg .c) s
/-- `ADD A,D` (R142, opcode 82). -/
def execAddAD (s : State) : Out := aluOperand .add (.reg .d) s
/-- `ADD A,E` (R142, opcode 83). -/
def execAddAE (s : State) : Out := aluOperand .add (.reg .e) s
/-- `ADD A,H` (R142, opcode 84). -/
def execAddAH (s : State) : Out := aluOperand .add (.reg .h) s
/-- `ADD A,L` (R142, opcode 85). -/
def execAddAL (s : State) : Out := aluOperand .add (.reg .l) s
/-- `ADD A,(HL)` (R142, opcode 86). -/
def execAddAIndHl (s : State) : Out := aluOperand .add .indHl s
/-- `ADD A,A` (R142, opcode 87). -/
def execAddAA (s : State) : Out := aluOperand .add (.reg .a) s
/-- `ADC A,B` (R143, opcode 88). -/
def execAdcAB (s : State) : Out := aluOperand .adc (.reg .b) s
/-- `ADC A,C` (R143, opcode 89). -/
def execAdcAC (s : State) : Out := aluOperand .adc (.reg .c) s
/-- `ADC A,D` (R143, opcode 8A). -/
def execAdcAD (s : State) : Out := aluOperand .adc (.reg .d) s
/-- `ADC A,E` (R143, opcode 8B). -/
def execAdcAE (s : State) : Out := aluOperand .adc (.reg .e) s
/-- `ADC A,H` (R143, opcode 8C). -/
def execAdcAH (s : State) : Out := aluOperand .adc (.reg .h) s
/-- `ADC A,L` (R143, opcode 8D). -/
def execAdcAL (s : State) : Out := aluOperand .adc (.reg .l) s
/-- `ADC A,(HL)` (R143, opcode 8E). -/
def execAdcAIndHl (s : State) : Out := aluOperand .adc .indHl s
/-- `ADC A,A` (R143, opcode 8F). -/
def execAdcAA (s : State) : Out := aluOperand .adc (.reg .a) s
/-- `SUB A,B` (R144, opcode 90). -/
def execSubAB (s : State) : Out := aluOperand .sub (.reg .b) s
/-- `SUB A,C` (R144, opcode 91). -/
def execSubAC (s : State) : Out := aluOperand .sub (.reg .c) s
/-- `SUB A,D` (R144, opcode 92). -/
def execSubAD (s : State) : Out := aluOperand .sub (.reg .d) s
/-- `SUB A,E` (R144, opcode 93). -/
def execSubAE (s : State) : Out := aluOperand .sub (.reg .e) s
/-- `SUB A,H` (R144, opcode 94). -/
def execSubAH (s : State) : Out := aluOperand .sub (.reg .h) s
/-- `SUB A,L` (R144, opcode 95). -/
def execSubAL (s : State) : Out := aluOperand .sub (.reg .l) s
/-- `SUB A,(HL)` (R144, opcode 96). -/
def execSubAIndHl (s : State) : Out := aluOperand .sub .indHl s
/-- `SUB A,A` (R144, opcode 97). -/
def execSubAA (s : State) : Out := aluOperand .sub (.reg .a) s
/-- `SBC A,B` (R145, opcode 98). -/
def execSbcAB (s : State) : Out := aluOperand .sbc (.reg .b) s
/-- `SBC A,C` (R145, opcode 99). -/
def execSbcAC (s : State) : Out := aluOperand .sbc (.reg .c) s
/-- `SBC A,D` (R145, opcode 9A). -/
def execSbcAD (s : State) : Out := aluOperand .sbc (.reg .d) s
/-- `SBC A,E` (R145, opcode 9B). -/
def execSbcAE (s : State) : Out := aluOperand .sbc (.reg .e) s
/-- `SBC A,H` (R145, opcode 9C). -/
def execSbcAH (s : State) : Out := aluOperand .sbc (.reg .h) s
/-- `SBC A,L` (R145, opcode 9D). -/
def execSbcAL (s : State) : Out := aluOperand .sbc (.reg .l) s
/-- `SBC A,(HL)` (R145, opcode 9E). -/
def execSbcAIndHl (s : State) : Out := aluOperand .sbc .indHl s
/-- `SBC A,A` (R145, opcode 9F). -/
def execSbcAA (s : State) : Out := aluOperand .sbc (.reg .a) s
/-- `AND A,B` (R146, opcode A0). -/
def execAndAB (s : State) : Out := aluOperand .and (.reg .b) s
/-- `AND A,C` (R146, opcode A1). -/
def execAndAC (s : State) : Out := aluOperand .and (.reg .c) s
/-- `AND A,D` (R146, opcode A2). -/
def execAndAD (s : State) : Out := aluOperand .and (.reg .d) s
/-- `AND A,E` (R146, opcode A3). -/
def execAndAE (s : State) : Out := aluOperand .and (.reg .e) s
/-- `AND A,H` (R146, opcode A4). -/
def execAndAH (s : State) : Out := aluOperand .and (.reg .h) s
/-- `AND A,L` (R146, opcode A5). -/
def execAndAL (s : State) : Out := aluOperand .and (.reg .l) s
/-- `AND A,(HL)` (R146, opcode A6). -/
def execAndAIndHl (s : State) : Out := aluOperand .and .indHl s
/-- `AND A,A` (R146, opcode A7). -/
def execAndAA (s : State) : Out := aluOperand .and (.reg .a) s
/-- `XOR A,B` (R147, opcode A8). -/
def execXorAB (s : State) : Out := aluOperand .xor (.reg .b) s
/-- `XOR A,C` (R147, opcode A9). -/
def execXorAC (s : State) : Out := aluOperand .xor (.reg .c) s
/-- `XOR A,D` (R147, opcode AA). -/
def execXorAD (s : State) : Out := aluOperand .xor (.reg .d) s
/-- `XOR A,E` (R147, opcode AB). -/
def execXorAE (s : State) : Out := aluOperand .xor (.reg .e) s
/-- `XOR A,H` (R147, opcode AC). -/
def execXorAH (s : State) : Out := aluOperand .xor (.reg .h) s
/-- `XOR A,L` (R147, opcode AD). -/
def execXorAL (s : State) : Out := aluOperand .xor (.reg .l) s
/-- `XOR A,(HL)` (R147, opcode AE). -/
def execXorAIndHl (s : State) : Out := aluOperand .xor .indHl s
/-- `XOR A,A` (R147, opcode AF). -/
def execXorAA (s : State) : Out := aluOperand .xor (.reg .a) s
/-- `OR A,B` (R148, opcode B0). -/
def execOrAB (s : State) : Out := aluOperand .or (.reg .b) s
/-- `OR A,C` (R148, opcode B1). -/
def execOrAC (s : State) : Out := aluOperand .or (.reg .c) s
/-- `OR A,D` (R148, opcode B2). -/
def execOrAD (s : State) : Out := aluOperand .or (.reg .d) s
/-- `OR A,E` (R148, opcode B3). -/
def execOrAE (s : State) : Out := aluOperand .or (.reg .e) s
/-- `OR A,H` (R148, opcode B4). -/
def execOrAH (s : State) : Out := aluOperand .or (.reg .h) s
/-- `OR A,L` (R148, opcode B5). -/
def execOrAL (s : State) : Out := aluOperand .or (.reg .l) s
/-- `OR A,(HL)` (R148, opcode B6). -/
def execOrAIndHl (s : State) : Out := aluOperand .or .indHl s
/-- `OR A,A` (R148, opcode B7). -/
def execOrAA (s : State) : Out := aluOperand .or (.reg .a) s
/-- `CP A,B` (R149, opcode B8). -/
def execCpAB (s : State) : Out := aluOperand .cp (.reg .b) s
/-- `CP A,C` (R149, opcode B9). -/
def execCpAC (s : State) : Out := aluOperand .cp (.reg .c) s
/-- `CP A,D` (R149, opcode BA). -/
def execCpAD (s : State) : Out := aluOperand .cp (.reg .d) s
/-- `CP A,E` (R149, opcode BB). -/
def execCpAE (s : State) : Out := aluOperand .cp (.reg .e) s
/-- `CP A,H` (R149, opcode BC). -/
def execCpAH (s : State) : Out := aluOperand .cp (.reg .h) s
/-- `CP A,L` (R149, opcode BD). -/
def execCpAL (s : State) : Out := aluOperand .cp (.reg .l) s
/-- `CP A,(HL)` (R149, opcode BE). -/
def execCpAIndHl (s : State) : Out := aluOperand .cp .indHl s
/-- `CP A,A` (R149, opcode BF). -/
def execCpAA (s : State) : Out := aluOperand .cp (.reg .a) s
/-- `ADD A,d8` (R142, opcode C6). -/
def execAddAD8 (v : Byte) (s : State) : Out := aluImm .add v s
/-- `ADC A,d8` (R143, opcode CE). -/
def execAdcAD8 (v : Byte) (s : State) : Out := aluImm .adc v s
/-- `SUB A,d8` (R144, opcode D6). -/
def execSubAD8 (v : Byte) (s : State) : Out := aluImm .sub v s
/-- `SBC A,d8` (R145, opcode DE). -/
def execSbcAD8 (v : Byte) (s : State) : Out := aluImm .sbc v s
/-- `AND A,d8` (R146, opcode E6). -/
def execAndAD8 (v : Byte) (s : State) : Out := aluImm .and v s
/-- `XOR A,d8` (R147, opcode EE). -/
def execXorAD8 (v : Byte) (s : State) : Out := aluImm .xor v s
/-- `OR A,d8` (R148, opcode F6). -/
def execOrAD8 (v : Byte) (s : State) : Out := aluImm .or v s
/-- `CP A,d8` (R149, opcode FE). -/
def execCpAD8 (v : Byte) (s : State) : Out := aluImm .cp v s

end Sys2Proof.Machine
end

