-- ==== Sys2Proof/Machine/BitPrimitives.lean ====
section
/-! DEFINITION. The bit primitives the core offers, with their out-of-range fault (spec/00_scope.md R7, R8, R10;
spec/60_exceptions.md R231). No instruction calls them with an index above 7. -/

namespace Sys2Proof.Machine

/-- `has_bit_set(value, n)`: is bit `n` one? An index above 7 is fatal (R7). -/
def hasBitSet (value : Byte) (n : Nat) : Host.Outcome Bool Fault Refusal :=
  if n ≤ 7 then .next (value.getLsbD n) else .fault (.bitIndexOutOfRange n)

/-- `value & ~(1 << n)` (R194). -/
def clearBit (value : Byte) (n : Nat) : Byte := value &&& ~~~(1#8 <<< n)

/-- `value | (1 << n)` (R195). -/
def raiseBit (value : Byte) (n : Nat) : Byte := value ||| (1#8 <<< n)

/-- `set_bit(value, n, set)`: bit `n` forced to `set`, the others unchanged. An index above 7 is fatal (R8). -/
def setBit (value : Byte) (n : Nat) (set : Bool) : Host.Outcome Byte Fault Refusal :=
  if n ≤ 7 then .next (if set then raiseBit value n else clearBit value n)
  else .fault (.bitIndexOutOfRange n)

end Sys2Proof.Machine
end

