-- ==== Sys2Proof/Machine/BitOps.lean ====
section
/-! DEFINITION. Bit test, reset and set (spec/44_rotate_shift_bit.md R193 to R195). Every bit index is a constant in
0..7 (R10). -/

namespace Sys2Proof.Machine

/-- `BIT n,r8`: flags Z01-, cost 2 on a register, 3 on (HL) (R193). -/
def testBit (n : Nat) (x : Operand8) (s : State) : Out :=
  andThen (readR8 s x) fun v t =>
  finish (operandCost x 2 3) (t.setFlags (some (!v.getLsbD n)) (some false) (some true) none)

/-- Read the operand and write `f` of it back, always one write; F is not touched (R180). -/
def modifyPlain (x : Operand8) (f : Byte → Byte) (cost : Nat) (s : State) : Out :=
  andThen (readR8 s x) fun v t => thenDo (writeR8 t x (f v)) (finish cost)

/-- `RES n,r8`: cost 2 on a register, 4 on (HL) (R194). -/
def resetBit (n : Nat) (x : Operand8) (s : State) : Out :=
  modifyPlain x (fun v => clearBit v n) (operandCost x 2 4) s

/-- `SET n,r8`: cost 2 on a register, 4 on (HL) (R195). -/
def setBitOf (n : Nat) (x : Operand8) (s : State) : Out :=
  modifyPlain x (fun v => raiseBit v n) (operandCost x 2 4) s

/-- `BIT 0,B` (R193, opcode CB 40). -/
def execBit0B (s : State) : Out := testBit 0 (.reg .b) s
/-- `BIT 0,C` (R193, opcode CB 41). -/
def execBit0C (s : State) : Out := testBit 0 (.reg .c) s
/-- `BIT 0,D` (R193, opcode CB 42). -/
def execBit0D (s : State) : Out := testBit 0 (.reg .d) s
/-- `BIT 0,E` (R193, opcode CB 43). -/
def execBit0E (s : State) : Out := testBit 0 (.reg .e) s
/-- `BIT 0,H` (R193, opcode CB 44). -/
def execBit0H (s : State) : Out := testBit 0 (.reg .h) s
/-- `BIT 0,L` (R193, opcode CB 45). -/
def execBit0L (s : State) : Out := testBit 0 (.reg .l) s
/-- `BIT 0,(HL)` (R193, opcode CB 46). -/
def execBit0IndHl (s : State) : Out := testBit 0 .indHl s
/-- `BIT 0,A` (R193, opcode CB 47). -/
def execBit0A (s : State) : Out := testBit 0 (.reg .a) s
/-- `BIT 1,B` (R193, opcode CB 48). -/
def execBit1B (s : State) : Out := testBit 1 (.reg .b) s
/-- `BIT 1,C` (R193, opcode CB 49). -/
def execBit1C (s : State) : Out := testBit 1 (.reg .c) s
/-- `BIT 1,D` (R193, opcode CB 4A). -/
def execBit1D (s : State) : Out := testBit 1 (.reg .d) s
/-- `BIT 1,E` (R193, opcode CB 4B). -/
def execBit1E (s : State) : Out := testBit 1 (.reg .e) s
/-- `BIT 1,H` (R193, opcode CB 4C). -/
def execBit1H (s : State) : Out := testBit 1 (.reg .h) s
/-- `BIT 1,L` (R193, opcode CB 4D). -/
def execBit1L (s : State) : Out := testBit 1 (.reg .l) s
/-- `BIT 1,(HL)` (R193, opcode CB 4E). -/
def execBit1IndHl (s : State) : Out := testBit 1 .indHl s
/-- `BIT 1,A` (R193, opcode CB 4F). -/
def execBit1A (s : State) : Out := testBit 1 (.reg .a) s
/-- `BIT 2,B` (R193, opcode CB 50). -/
def execBit2B (s : State) : Out := testBit 2 (.reg .b) s
/-- `BIT 2,C` (R193, opcode CB 51). -/
def execBit2C (s : State) : Out := testBit 2 (.reg .c) s
/-- `BIT 2,D` (R193, opcode CB 52). -/
def execBit2D (s : State) : Out := testBit 2 (.reg .d) s
/-- `BIT 2,E` (R193, opcode CB 53). -/
def execBit2E (s : State) : Out := testBit 2 (.reg .e) s
/-- `BIT 2,H` (R193, opcode CB 54). -/
def execBit2H (s : State) : Out := testBit 2 (.reg .h) s
/-- `BIT 2,L` (R193, opcode CB 55). -/
def execBit2L (s : State) : Out := testBit 2 (.reg .l) s
/-- `BIT 2,(HL)` (R193, opcode CB 56). -/
def execBit2IndHl (s : State) : Out := testBit 2 .indHl s
/-- `BIT 2,A` (R193, opcode CB 57). -/
def execBit2A (s : State) : Out := testBit 2 (.reg .a) s
/-- `BIT 3,B` (R193, opcode CB 58). -/
def execBit3B (s : State) : Out := testBit 3 (.reg .b) s
/-- `BIT 3,C` (R193, opcode CB 59). -/
def execBit3C (s : State) : Out := testBit 3 (.reg .c) s
/-- `BIT 3,D` (R193, opcode CB 5A). -/
def execBit3D (s : State) : Out := testBit 3 (.reg .d) s
/-- `BIT 3,E` (R193, opcode CB 5B). -/
def execBit3E (s : State) : Out := testBit 3 (.reg .e) s
/-- `BIT 3,H` (R193, opcode CB 5C). -/
def execBit3H (s : State) : Out := testBit 3 (.reg .h) s
/-- `BIT 3,L` (R193, opcode CB 5D). -/
def execBit3L (s : State) : Out := testBit 3 (.reg .l) s
/-- `BIT 3,(HL)` (R193, opcode CB 5E). -/
def execBit3IndHl (s : State) : Out := testBit 3 .indHl s
/-- `BIT 3,A` (R193, opcode CB 5F). -/
def execBit3A (s : State) : Out := testBit 3 (.reg .a) s
/-- `BIT 4,B` (R193, opcode CB 60). -/
def execBit4B (s : State) : Out := testBit 4 (.reg .b) s
/-- `BIT 4,C` (R193, opcode CB 61). -/
def execBit4C (s : State) : Out := testBit 4 (.reg .c) s
/-- `BIT 4,D` (R193, opcode CB 62). -/
def execBit4D (s : State) : Out := testBit 4 (.reg .d) s
/-- `BIT 4,E` (R193, opcode CB 63). -/
def execBit4E (s : State) : Out := testBit 4 (.reg .e) s
/-- `BIT 4,H` (R193, opcode CB 64). -/
def execBit4H (s : State) : Out := testBit 4 (.reg .h) s
/-- `BIT 4,L` (R193, opcode CB 65). -/
def execBit4L (s : State) : Out := testBit 4 (.reg .l) s
/-- `BIT 4,(HL)` (R193, opcode CB 66). -/
def execBit4IndHl (s : State) : Out := testBit 4 .indHl s
/-- `BIT 4,A` (R193, opcode CB 67). -/
def execBit4A (s : State) : Out := testBit 4 (.reg .a) s
/-- `BIT 5,B` (R193, opcode CB 68). -/
def execBit5B (s : State) : Out := testBit 5 (.reg .b) s
/-- `BIT 5,C` (R193, opcode CB 69). -/
def execBit5C (s : State) : Out := testBit 5 (.reg .c) s
/-- `BIT 5,D` (R193, opcode CB 6A). -/
def execBit5D (s : State) : Out := testBit 5 (.reg .d) s
/-- `BIT 5,E` (R193, opcode CB 6B). -/
def execBit5E (s : State) : Out := testBit 5 (.reg .e) s
/-- `BIT 5,H` (R193, opcode CB 6C). -/
def execBit5H (s : State) : Out := testBit 5 (.reg .h) s
/-- `BIT 5,L` (R193, opcode CB 6D). -/
def execBit5L (s : State) : Out := testBit 5 (.reg .l) s
/-- `BIT 5,(HL)` (R193, opcode CB 6E). -/
def execBit5IndHl (s : State) : Out := testBit 5 .indHl s
/-- `BIT 5,A` (R193, opcode CB 6F). -/
def execBit5A (s : State) : Out := testBit 5 (.reg .a) s
/-- `BIT 6,B` (R193, opcode CB 70). -/
def execBit6B (s : State) : Out := testBit 6 (.reg .b) s
/-- `BIT 6,C` (R193, opcode CB 71). -/
def execBit6C (s : State) : Out := testBit 6 (.reg .c) s
/-- `BIT 6,D` (R193, opcode CB 72). -/
def execBit6D (s : State) : Out := testBit 6 (.reg .d) s
/-- `BIT 6,E` (R193, opcode CB 73). -/
def execBit6E (s : State) : Out := testBit 6 (.reg .e) s
/-- `BIT 6,H` (R193, opcode CB 74). -/
def execBit6H (s : State) : Out := testBit 6 (.reg .h) s
/-- `BIT 6,L` (R193, opcode CB 75). -/
def execBit6L (s : State) : Out := testBit 6 (.reg .l) s
/-- `BIT 6,(HL)` (R193, opcode CB 76). -/
def execBit6IndHl (s : State) : Out := testBit 6 .indHl s
/-- `BIT 6,A` (R193, opcode CB 77). -/
def execBit6A (s : State) : Out := testBit 6 (.reg .a) s
/-- `BIT 7,B` (R193, opcode CB 78). -/
def execBit7B (s : State) : Out := testBit 7 (.reg .b) s
/-- `BIT 7,C` (R193, opcode CB 79). -/
def execBit7C (s : State) : Out := testBit 7 (.reg .c) s
/-- `BIT 7,D` (R193, opcode CB 7A). -/
def execBit7D (s : State) : Out := testBit 7 (.reg .d) s
/-- `BIT 7,E` (R193, opcode CB 7B). -/
def execBit7E (s : State) : Out := testBit 7 (.reg .e) s
/-- `BIT 7,H` (R193, opcode CB 7C). -/
def execBit7H (s : State) : Out := testBit 7 (.reg .h) s
/-- `BIT 7,L` (R193, opcode CB 7D). -/
def execBit7L (s : State) : Out := testBit 7 (.reg .l) s
/-- `BIT 7,(HL)` (R193, opcode CB 7E). -/
def execBit7IndHl (s : State) : Out := testBit 7 .indHl s
/-- `BIT 7,A` (R193, opcode CB 7F). -/
def execBit7A (s : State) : Out := testBit 7 (.reg .a) s
/-- `RES 0,B` (R194, opcode CB 80). -/
def execRes0B (s : State) : Out := resetBit 0 (.reg .b) s
/-- `RES 0,C` (R194, opcode CB 81). -/
def execRes0C (s : State) : Out := resetBit 0 (.reg .c) s
/-- `RES 0,D` (R194, opcode CB 82). -/
def execRes0D (s : State) : Out := resetBit 0 (.reg .d) s
/-- `RES 0,E` (R194, opcode CB 83). -/
def execRes0E (s : State) : Out := resetBit 0 (.reg .e) s
/-- `RES 0,H` (R194, opcode CB 84). -/
def execRes0H (s : State) : Out := resetBit 0 (.reg .h) s
/-- `RES 0,L` (R194, opcode CB 85). -/
def execRes0L (s : State) : Out := resetBit 0 (.reg .l) s
/-- `RES 0,(HL)` (R194, opcode CB 86). -/
def execRes0IndHl (s : State) : Out := resetBit 0 .indHl s
/-- `RES 0,A` (R194, opcode CB 87). -/
def execRes0A (s : State) : Out := resetBit 0 (.reg .a) s
/-- `RES 1,B` (R194, opcode CB 88). -/
def execRes1B (s : State) : Out := resetBit 1 (.reg .b) s
/-- `RES 1,C` (R194, opcode CB 89). -/
def execRes1C (s : State) : Out := resetBit 1 (.reg .c) s
/-- `RES 1,D` (R194, opcode CB 8A). -/
def execRes1D (s : State) : Out := resetBit 1 (.reg .d) s
/-- `RES 1,E` (R194, opcode CB 8B). -/
def execRes1E (s : State) : Out := resetBit 1 (.reg .e) s
/-- `RES 1,H` (R194, opcode CB 8C). -/
def execRes1H (s : State) : Out := resetBit 1 (.reg .h) s
/-- `RES 1,L` (R194, opcode CB 8D). -/
def execRes1L (s : State) : Out := resetBit 1 (.reg .l) s
/-- `RES 1,(HL)` (R194, opcode CB 8E). -/
def execRes1IndHl (s : State) : Out := resetBit 1 .indHl s
/-- `RES 1,A` (R194, opcode CB 8F). -/
def execRes1A (s : State) : Out := resetBit 1 (.reg .a) s
/-- `RES 2,B` (R194, opcode CB 90). -/
def execRes2B (s : State) : Out := resetBit 2 (.reg .b) s
/-- `RES 2,C` (R194, opcode CB 91). -/
def execRes2C (s : State) : Out := resetBit 2 (.reg .c) s
/-- `RES 2,D` (R194, opcode CB 92). -/
def execRes2D (s : State) : Out := resetBit 2 (.reg .d) s
/-- `RES 2,E` (R194, opcode CB 93). -/
def execRes2E (s : State) : Out := resetBit 2 (.reg .e) s
/-- `RES 2,H` (R194, opcode CB 94). -/
def execRes2H (s : State) : Out := resetBit 2 (.reg .h) s
/-- `RES 2,L` (R194, opcode CB 95). -/
def execRes2L (s : State) : Out := resetBit 2 (.reg .l) s
/-- `RES 2,(HL)` (R194, opcode CB 96). -/
def execRes2IndHl (s : State) : Out := resetBit 2 .indHl s
/-- `RES 2,A` (R194, opcode CB 97). -/
def execRes2A (s : State) : Out := resetBit 2 (.reg .a) s
/-- `RES 3,B` (R194, opcode CB 98). -/
def execRes3B (s : State) : Out := resetBit 3 (.reg .b) s
/-- `RES 3,C` (R194, opcode CB 99). -/
def execRes3C (s : State) : Out := resetBit 3 (.reg .c) s
/-- `RES 3,D` (R194, opcode CB 9A). -/
def execRes3D (s : State) : Out := resetBit 3 (.reg .d) s
/-- `RES 3,E` (R194, opcode CB 9B). -/
def execRes3E (s : State) : Out := resetBit 3 (.reg .e) s
/-- `RES 3,H` (R194, opcode CB 9C). -/
def execRes3H (s : State) : Out := resetBit 3 (.reg .h) s
/-- `RES 3,L` (R194, opcode CB 9D). -/
def execRes3L (s : State) : Out := resetBit 3 (.reg .l) s
/-- `RES 3,(HL)` (R194, opcode CB 9E). -/
def execRes3IndHl (s : State) : Out := resetBit 3 .indHl s
/-- `RES 3,A` (R194, opcode CB 9F). -/
def execRes3A (s : State) : Out := resetBit 3 (.reg .a) s
/-- `RES 4,B` (R194, opcode CB A0). -/
def execRes4B (s : State) : Out := resetBit 4 (.reg .b) s
/-- `RES 4,C` (R194, opcode CB A1). -/
def execRes4C (s : State) : Out := resetBit 4 (.reg .c) s
/-- `RES 4,D` (R194, opcode CB A2). -/
def execRes4D (s : State) : Out := resetBit 4 (.reg .d) s
/-- `RES 4,E` (R194, opcode CB A3). -/
def execRes4E (s : State) : Out := resetBit 4 (.reg .e) s
/-- `RES 4,H` (R194, opcode CB A4). -/
def execRes4H (s : State) : Out := resetBit 4 (.reg .h) s
/-- `RES 4,L` (R194, opcode CB A5). -/
def execRes4L (s : State) : Out := resetBit 4 (.reg .l) s
/-- `RES 4,(HL)` (R194, opcode CB A6). -/
def execRes4IndHl (s : State) : Out := resetBit 4 .indHl s
/-- `RES 4,A` (R194, opcode CB A7). -/
def execRes4A (s : State) : Out := resetBit 4 (.reg .a) s
/-- `RES 5,B` (R194, opcode CB A8). -/
def execRes5B (s : State) : Out := resetBit 5 (.reg .b) s
/-- `RES 5,C` (R194, opcode CB A9). -/
def execRes5C (s : State) : Out := resetBit 5 (.reg .c) s
/-- `RES 5,D` (R194, opcode CB AA). -/
def execRes5D (s : State) : Out := resetBit 5 (.reg .d) s
/-- `RES 5,E` (R194, opcode CB AB). -/
def execRes5E (s : State) : Out := resetBit 5 (.reg .e) s
/-- `RES 5,H` (R194, opcode CB AC). -/
def execRes5H (s : State) : Out := resetBit 5 (.reg .h) s
/-- `RES 5,L` (R194, opcode CB AD). -/
def execRes5L (s : State) : Out := resetBit 5 (.reg .l) s
/-- `RES 5,(HL)` (R194, opcode CB AE). -/
def execRes5IndHl (s : State) : Out := resetBit 5 .indHl s
/-- `RES 5,A` (R194, opcode CB AF). -/
def execRes5A (s : State) : Out := resetBit 5 (.reg .a) s
/-- `RES 6,B` (R194, opcode CB B0). -/
def execRes6B (s : State) : Out := resetBit 6 (.reg .b) s
/-- `RES 6,C` (R194, opcode CB B1). -/
def execRes6C (s : State) : Out := resetBit 6 (.reg .c) s
/-- `RES 6,D` (R194, opcode CB B2). -/
def execRes6D (s : State) : Out := resetBit 6 (.reg .d) s
/-- `RES 6,E` (R194, opcode CB B3). -/
def execRes6E (s : State) : Out := resetBit 6 (.reg .e) s
/-- `RES 6,H` (R194, opcode CB B4). -/
def execRes6H (s : State) : Out := resetBit 6 (.reg .h) s
/-- `RES 6,L` (R194, opcode CB B5). -/
def execRes6L (s : State) : Out := resetBit 6 (.reg .l) s
/-- `RES 6,(HL)` (R194, opcode CB B6). -/
def execRes6IndHl (s : State) : Out := resetBit 6 .indHl s
/-- `RES 6,A` (R194, opcode CB B7). -/
def execRes6A (s : State) : Out := resetBit 6 (.reg .a) s
/-- `RES 7,B` (R194, opcode CB B8). -/
def execRes7B (s : State) : Out := resetBit 7 (.reg .b) s
/-- `RES 7,C` (R194, opcode CB B9). -/
def execRes7C (s : State) : Out := resetBit 7 (.reg .c) s
/-- `RES 7,D` (R194, opcode CB BA). -/
def execRes7D (s : State) : Out := resetBit 7 (.reg .d) s
/-- `RES 7,E` (R194, opcode CB BB). -/
def execRes7E (s : State) : Out := resetBit 7 (.reg .e) s
/-- `RES 7,H` (R194, opcode CB BC). -/
def execRes7H (s : State) : Out := resetBit 7 (.reg .h) s
/-- `RES 7,L` (R194, opcode CB BD). -/
def execRes7L (s : State) : Out := resetBit 7 (.reg .l) s
/-- `RES 7,(HL)` (R194, opcode CB BE). -/
def execRes7IndHl (s : State) : Out := resetBit 7 .indHl s
/-- `RES 7,A` (R194, opcode CB BF). -/
def execRes7A (s : State) : Out := resetBit 7 (.reg .a) s
/-- `SET 0,B` (R195, opcode CB C0). -/
def execSet0B (s : State) : Out := setBitOf 0 (.reg .b) s
/-- `SET 0,C` (R195, opcode CB C1). -/
def execSet0C (s : State) : Out := setBitOf 0 (.reg .c) s
/-- `SET 0,D` (R195, opcode CB C2). -/
def execSet0D (s : State) : Out := setBitOf 0 (.reg .d) s
/-- `SET 0,E` (R195, opcode CB C3). -/
def execSet0E (s : State) : Out := setBitOf 0 (.reg .e) s
/-- `SET 0,H` (R195, opcode CB C4). -/
def execSet0H (s : State) : Out := setBitOf 0 (.reg .h) s
/-- `SET 0,L` (R195, opcode CB C5). -/
def execSet0L (s : State) : Out := setBitOf 0 (.reg .l) s
/-- `SET 0,(HL)` (R195, opcode CB C6). -/
def execSet0IndHl (s : State) : Out := setBitOf 0 .indHl s
/-- `SET 0,A` (R195, opcode CB C7). -/
def execSet0A (s : State) : Out := setBitOf 0 (.reg .a) s
/-- `SET 1,B` (R195, opcode CB C8). -/
def execSet1B (s : State) : Out := setBitOf 1 (.reg .b) s
/-- `SET 1,C` (R195, opcode CB C9). -/
def execSet1C (s : State) : Out := setBitOf 1 (.reg .c) s
/-- `SET 1,D` (R195, opcode CB CA). -/
def execSet1D (s : State) : Out := setBitOf 1 (.reg .d) s
/-- `SET 1,E` (R195, opcode CB CB). -/
def execSet1E (s : State) : Out := setBitOf 1 (.reg .e) s
/-- `SET 1,H` (R195, opcode CB CC). -/
def execSet1H (s : State) : Out := setBitOf 1 (.reg .h) s
/-- `SET 1,L` (R195, opcode CB CD). -/
def execSet1L (s : State) : Out := setBitOf 1 (.reg .l) s
/-- `SET 1,(HL)` (R195, opcode CB CE). -/
def execSet1IndHl (s : State) : Out := setBitOf 1 .indHl s
/-- `SET 1,A` (R195, opcode CB CF). -/
def execSet1A (s : State) : Out := setBitOf 1 (.reg .a) s
/-- `SET 2,B` (R195, opcode CB D0). -/
def execSet2B (s : State) : Out := setBitOf 2 (.reg .b) s
/-- `SET 2,C` (R195, opcode CB D1). -/
def execSet2C (s : State) : Out := setBitOf 2 (.reg .c) s
/-- `SET 2,D` (R195, opcode CB D2). -/
def execSet2D (s : State) : Out := setBitOf 2 (.reg .d) s
/-- `SET 2,E` (R195, opcode CB D3). -/
def execSet2E (s : State) : Out := setBitOf 2 (.reg .e) s
/-- `SET 2,H` (R195, opcode CB D4). -/
def execSet2H (s : State) : Out := setBitOf 2 (.reg .h) s
/-- `SET 2,L` (R195, opcode CB D5). -/
def execSet2L (s : State) : Out := setBitOf 2 (.reg .l) s
/-- `SET 2,(HL)` (R195, opcode CB D6). -/
def execSet2IndHl (s : State) : Out := setBitOf 2 .indHl s
/-- `SET 2,A` (R195, opcode CB D7). -/
def execSet2A (s : State) : Out := setBitOf 2 (.reg .a) s
/-- `SET 3,B` (R195, opcode CB D8). -/
def execSet3B (s : State) : Out := setBitOf 3 (.reg .b) s
/-- `SET 3,C` (R195, opcode CB D9). -/
def execSet3C (s : State) : Out := setBitOf 3 (.reg .c) s
/-- `SET 3,D` (R195, opcode CB DA). -/
def execSet3D (s : State) : Out := setBitOf 3 (.reg .d) s
/-- `SET 3,E` (R195, opcode CB DB). -/
def execSet3E (s : State) : Out := setBitOf 3 (.reg .e) s
/-- `SET 3,H` (R195, opcode CB DC). -/
def execSet3H (s : State) : Out := setBitOf 3 (.reg .h) s
/-- `SET 3,L` (R195, opcode CB DD). -/
def execSet3L (s : State) : Out := setBitOf 3 (.reg .l) s
/-- `SET 3,(HL)` (R195, opcode CB DE). -/
def execSet3IndHl (s : State) : Out := setBitOf 3 .indHl s
/-- `SET 3,A` (R195, opcode CB DF). -/
def execSet3A (s : State) : Out := setBitOf 3 (.reg .a) s
/-- `SET 4,B` (R195, opcode CB E0). -/
def execSet4B (s : State) : Out := setBitOf 4 (.reg .b) s
/-- `SET 4,C` (R195, opcode CB E1). -/
def execSet4C (s : State) : Out := setBitOf 4 (.reg .c) s
/-- `SET 4,D` (R195, opcode CB E2). -/
def execSet4D (s : State) : Out := setBitOf 4 (.reg .d) s
/-- `SET 4,E` (R195, opcode CB E3). -/
def execSet4E (s : State) : Out := setBitOf 4 (.reg .e) s
/-- `SET 4,H` (R195, opcode CB E4). -/
def execSet4H (s : State) : Out := setBitOf 4 (.reg .h) s
/-- `SET 4,L` (R195, opcode CB E5). -/
def execSet4L (s : State) : Out := setBitOf 4 (.reg .l) s
/-- `SET 4,(HL)` (R195, opcode CB E6). -/
def execSet4IndHl (s : State) : Out := setBitOf 4 .indHl s
/-- `SET 4,A` (R195, opcode CB E7). -/
def execSet4A (s : State) : Out := setBitOf 4 (.reg .a) s
/-- `SET 5,B` (R195, opcode CB E8). -/
def execSet5B (s : State) : Out := setBitOf 5 (.reg .b) s
/-- `SET 5,C` (R195, opcode CB E9). -/
def execSet5C (s : State) : Out := setBitOf 5 (.reg .c) s
/-- `SET 5,D` (R195, opcode CB EA). -/
def execSet5D (s : State) : Out := setBitOf 5 (.reg .d) s
/-- `SET 5,E` (R195, opcode CB EB). -/
def execSet5E (s : State) : Out := setBitOf 5 (.reg .e) s
/-- `SET 5,H` (R195, opcode CB EC). -/
def execSet5H (s : State) : Out := setBitOf 5 (.reg .h) s
/-- `SET 5,L` (R195, opcode CB ED). -/
def execSet5L (s : State) : Out := setBitOf 5 (.reg .l) s
/-- `SET 5,(HL)` (R195, opcode CB EE). -/
def execSet5IndHl (s : State) : Out := setBitOf 5 .indHl s
/-- `SET 5,A` (R195, opcode CB EF). -/
def execSet5A (s : State) : Out := setBitOf 5 (.reg .a) s
/-- `SET 6,B` (R195, opcode CB F0). -/
def execSet6B (s : State) : Out := setBitOf 6 (.reg .b) s
/-- `SET 6,C` (R195, opcode CB F1). -/
def execSet6C (s : State) : Out := setBitOf 6 (.reg .c) s
/-- `SET 6,D` (R195, opcode CB F2). -/
def execSet6D (s : State) : Out := setBitOf 6 (.reg .d) s
/-- `SET 6,E` (R195, opcode CB F3). -/
def execSet6E (s : State) : Out := setBitOf 6 (.reg .e) s
/-- `SET 6,H` (R195, opcode CB F4). -/
def execSet6H (s : State) : Out := setBitOf 6 (.reg .h) s
/-- `SET 6,L` (R195, opcode CB F5). -/
def execSet6L (s : State) : Out := setBitOf 6 (.reg .l) s
/-- `SET 6,(HL)` (R195, opcode CB F6). -/
def execSet6IndHl (s : State) : Out := setBitOf 6 .indHl s
/-- `SET 6,A` (R195, opcode CB F7). -/
def execSet6A (s : State) : Out := setBitOf 6 (.reg .a) s
/-- `SET 7,B` (R195, opcode CB F8). -/
def execSet7B (s : State) : Out := setBitOf 7 (.reg .b) s
/-- `SET 7,C` (R195, opcode CB F9). -/
def execSet7C (s : State) : Out := setBitOf 7 (.reg .c) s
/-- `SET 7,D` (R195, opcode CB FA). -/
def execSet7D (s : State) : Out := setBitOf 7 (.reg .d) s
/-- `SET 7,E` (R195, opcode CB FB). -/
def execSet7E (s : State) : Out := setBitOf 7 (.reg .e) s
/-- `SET 7,H` (R195, opcode CB FC). -/
def execSet7H (s : State) : Out := setBitOf 7 (.reg .h) s
/-- `SET 7,L` (R195, opcode CB FD). -/
def execSet7L (s : State) : Out := setBitOf 7 (.reg .l) s
/-- `SET 7,(HL)` (R195, opcode CB FE). -/
def execSet7IndHl (s : State) : Out := setBitOf 7 .indHl s
/-- `SET 7,A` (R195, opcode CB FF). -/
def execSet7A (s : State) : Out := setBitOf 7 (.reg .a) s

end Sys2Proof.Machine
end

