-- ==== Sys2Proof/Machine/Control.lean ====
section
/-! DEFINITION. Jumps, calls, returns and restarts (spec/45_control.md). PC is already past the instruction when a
meaning runs, so a false condition leaves it there (R200). No flag is written. -/

namespace Sys2Proof.Machine

/-- `PC <- x` (R201, R203, R204). -/
def jumpTo (x : Word) (cost : Nat) (s : State) : Out := finish cost { s with pc := x }

/-- `PC +_16 sext_16(e)`, the base being the address after the instruction (R204). -/
def relativeTarget (e : Byte) (s : State) : Word := s.pc + sext16 e

/-- A conditional jump with its cost taken and not taken (R202, R205). -/
def jumpIf (cc : Cond) (x : Word) (taken notTaken : Nat) (s : State) : Out :=
  if s.cond cc then jumpTo x taken s else finish notTaken s

/-- `Push16(PC); PC <- x` (R206, R211). -/
def callTo (x : Word) (cost : Nat) (s : State) : Out :=
  thenDo (push16 s s.pc) fun t => finish cost { t with pc := x }

/-- A conditional call, cost 6 taken and 3 not taken; no stack access when not taken (R207). -/
def callIf (cc : Cond) (x : Word) (s : State) : Out :=
  if s.cond cc then callTo x 6 s else finish 3 s

/-- `PC <- Pop16()` (R208). -/
def returnFrom (cost : Nat) (s : State) : Out :=
  andThen (pop16 s) fun x t => finish cost { t with pc := x }

/-- A conditional return, cost 5 taken and 2 not taken; no stack access when not taken (R209). -/
def returnIf (cc : Cond) (s : State) : Out :=
  if s.cond cc then returnFrom 5 s else finish 2 s

/-- `PC <- Pop16(); ime <- 1`, cost 4 (R210). -/
def returnEnabling (s : State) : Out :=
  andThen (pop16 s) fun x t => finish 4 { t with pc := x, ime := true }

/-- `JR e8` (R204, opcode 18). -/
def execJrE8 (e : Byte) (s : State) : Out := jumpTo (relativeTarget e s) 3 s
/-- `JR NZ,e8` (R205, opcode 20). -/
def execJrNzE8 (e : Byte) (s : State) : Out := jumpIf .nz (relativeTarget e s) 3 2 s
/-- `JR Z,e8` (R205, opcode 28). -/
def execJrZE8 (e : Byte) (s : State) : Out := jumpIf .z (relativeTarget e s) 3 2 s
/-- `JR NC,e8` (R205, opcode 30). -/
def execJrNcE8 (e : Byte) (s : State) : Out := jumpIf .nc (relativeTarget e s) 3 2 s
/-- `JR C,e8` (R205, opcode 38). -/
def execJrCE8 (e : Byte) (s : State) : Out := jumpIf .c (relativeTarget e s) 3 2 s
/-- `RET NZ` (R209, opcode C0). -/
def execRetNz (s : State) : Out := returnIf .nz s
/-- `JP NZ,a16` (R202, opcode C2). -/
def execJpNzA16 (a : Word) (s : State) : Out := jumpIf .nz a 4 3 s
/-- `JP a16` (R201, opcode C3). -/
def execJpA16 (a : Word) (s : State) : Out := jumpTo a 4 s
/-- `CALL NZ,a16` (R207, opcode C4). -/
def execCallNzA16 (a : Word) (s : State) : Out := callIf .nz a s
/-- `RST 00H` (R211, opcode C7). -/
def execRst00 (s : State) : Out := callTo 0x0000#16 4 s
/-- `RET Z` (R209, opcode C8). -/
def execRetZ (s : State) : Out := returnIf .z s
/-- `RET` (R208, opcode C9). -/
def execRet (s : State) : Out := returnFrom 4 s
/-- `JP Z,a16` (R202, opcode CA). -/
def execJpZA16 (a : Word) (s : State) : Out := jumpIf .z a 4 3 s
/-- `CALL Z,a16` (R207, opcode CC). -/
def execCallZA16 (a : Word) (s : State) : Out := callIf .z a s
/-- `CALL a16` (R206, opcode CD). -/
def execCallA16 (a : Word) (s : State) : Out := callTo a 6 s
/-- `RST 08H` (R211, opcode CF). -/
def execRst08 (s : State) : Out := callTo 0x0008#16 4 s
/-- `RET NC` (R209, opcode D0). -/
def execRetNc (s : State) : Out := returnIf .nc s
/-- `JP NC,a16` (R202, opcode D2). -/
def execJpNcA16 (a : Word) (s : State) : Out := jumpIf .nc a 4 3 s
/-- `CALL NC,a16` (R207, opcode D4). -/
def execCallNcA16 (a : Word) (s : State) : Out := callIf .nc a s
/-- `RST 10H` (R211, opcode D7). -/
def execRst10 (s : State) : Out := callTo 0x0010#16 4 s
/-- `RET C` (R209, opcode D8). -/
def execRetC (s : State) : Out := returnIf .c s
/-- `RETI` (R210, opcode D9). -/
def execReti (s : State) : Out := returnEnabling s
/-- `JP C,a16` (R202, opcode DA). -/
def execJpCA16 (a : Word) (s : State) : Out := jumpIf .c a 4 3 s
/-- `CALL C,a16` (R207, opcode DC). -/
def execCallCA16 (a : Word) (s : State) : Out := callIf .c a s
/-- `RST 18H` (R211, opcode DF). -/
def execRst18 (s : State) : Out := callTo 0x0018#16 4 s
/-- `RST 20H` (R211, opcode E7). -/
def execRst20 (s : State) : Out := callTo 0x0020#16 4 s
/-- `JP HL` (R203, opcode E9). -/
def execJpHl (s : State) : Out := jumpTo s.hl 1 s
/-- `RST 28H` (R211, opcode EF). -/
def execRst28 (s : State) : Out := callTo 0x0028#16 4 s
/-- `RST 30H` (R211, opcode F7). -/
def execRst30 (s : State) : Out := callTo 0x0030#16 4 s
/-- `RST 38H` (R211, opcode FF). -/
def execRst38 (s : State) : Out := callTo 0x0038#16 4 s

end Sys2Proof.Machine
end

