-- ==== Sys2Proof/Machine/Load16.lean ====
section
/-! DEFINITION. The 16-bit loads and the stack instructions (spec/41_load16_stack.md). Only POP AF and LD HL,SP+e8
write flags (R130). -/

namespace Sys2Proof.Machine

/-- `rr[p] <- v`, cost 3 (R131). -/
def ldReg16Imm (rr : Reg16) (v : Word) (s : State) : Out := finish 3 (s.setReg16 rr v)

/-- `LD (a16),SP`: the low byte first, the high byte at the next address modulo 2^16 (R132). -/
def storeSp (x : Word) (s : State) : Out :=
  thenDo (memWrite s x (lo s.sp)) fun t =>
  thenDo (memWrite t (x + 1#16) (hi t.sp)) (finish 5)

/-- `SP <- HL` (R133). -/
def loadSpHl (s : State) : Out := finish 2 { s with sp := s.hl }

/-- `Push16(rr[p])` (R134). -/
def pushPair (p : StackPair) (s : State) : Out := thenDo (push16 s (s.stackPair p)) (finish 4)

/-- `v <- Pop16(); rr[p] <- v` (R135, R136). -/
def popPair (p : StackPair) (s : State) : Out :=
  andThen (pop16 s) fun v t => finish 3 (t.setStackPair p v)

/-- `HL <- SP + sext_16(e)` with the low-byte flags (R137). -/
def loadHlSpDisplaced (e : Byte) (s : State) : Out :=
  let r := addDisplacement s.sp e
  finish 3 ((s.setHl r.value).setFlags r.z r.n r.h r.c)

/-- `LD BC,d16` (R131, opcode 01). -/
def execLdBcD16 (v : Word) (s : State) : Out := ldReg16Imm .bc v s
/-- `LD (a16),SP` (R132, opcode 08). -/
def execLdIndA16Sp (a : Word) (s : State) : Out := storeSp a s
/-- `LD DE,d16` (R131, opcode 11). -/
def execLdDeD16 (v : Word) (s : State) : Out := ldReg16Imm .de v s
/-- `LD HL,d16` (R131, opcode 21). -/
def execLdHlD16 (v : Word) (s : State) : Out := ldReg16Imm .hl v s
/-- `LD SP,d16` (R131, opcode 31). -/
def execLdSpD16 (v : Word) (s : State) : Out := ldReg16Imm .sp v s
/-- `POP BC` (R135, opcode C1). -/
def execPopBc (s : State) : Out := popPair .bc s
/-- `PUSH BC` (R134, opcode C5). -/
def execPushBc (s : State) : Out := pushPair .bc s
/-- `POP DE` (R135, opcode D1). -/
def execPopDe (s : State) : Out := popPair .de s
/-- `PUSH DE` (R134, opcode D5). -/
def execPushDe (s : State) : Out := pushPair .de s
/-- `POP HL` (R135, opcode E1). -/
def execPopHl (s : State) : Out := popPair .hl s
/-- `PUSH HL` (R134, opcode E5). -/
def execPushHl (s : State) : Out := pushPair .hl s
/-- `POP AF` (R136, opcode F1). -/
def execPopAf (s : State) : Out := popPair .af s
/-- `PUSH AF` (R134, opcode F5). -/
def execPushAf (s : State) : Out := pushPair .af s
/-- `LD HL,SP+e8` (R137, opcode F8). -/
def execLdHlSpE8 (e : Byte) (s : State) : Out := loadHlSpDisplaced e s
/-- `LD SP,HL` (R133, opcode F9). -/
def execLdSpHl (s : State) : Out := loadSpHl s

end Sys2Proof.Machine
end

