-- ==== Sys2Proof/Machine/Load8.lean ====
section
/-! DEFINITION. The 8-bit loads (spec/40_load8.md). Each meaning runs on the state after the instruction's bytes have
been fetched, so PC is past them and immediates are arguments (R100). No instruction here touches F. -/

namespace Sys2Proof.Machine

/-- `x[dst] <- x[src]`, cost 1 (R101). -/
def ldRegReg (dst src : Reg8) (s : State) : Out := finish 1 (s.setReg dst (s.reg src))

/-- `x[dst] <- v`, cost 2 (R102). -/
def ldRegImm (dst : Reg8) (v : Byte) (s : State) : Out := finish 2 (s.setReg dst v)

/-- `x[dst] <- MemRead(x, 1)`: the loads from memory (R103, R106, R107, R110, R112, R114). -/
def loadFrom (dst : Reg8) (x : Word) (cost : Nat) (s : State) : Out :=
  andThen (memRead s x) fun v t => finish cost (t.setReg dst v)

/-- `MemWrite(x, 1, v)`: the stores to memory (R104, R105, R108, R109, R111, R113, R115). -/
def storeTo (x : Word) (v : Byte) (cost : Nat) (s : State) : Out :=
  thenDo (memWrite s x v) (finish cost)

/-- `A <- MemRead(HL, 1); HL <- next` (R116, R118). -/
def loadFromHlThen (next : Word) (s : State) : Out :=
  andThen (memRead s s.hl) fun v t => finish 2 (State.setHl { t with a := v } next)

/-- `MemWrite(HL, 1, A); HL <- next` (R117, R119). -/
def storeToHlThen (next : Word) (s : State) : Out :=
  thenDo (memWrite s s.hl s.a) fun t => finish 2 (t.setHl next)

/-- `LD (BC),A` (R108, opcode 02). -/
def execLdIndBcA (s : State) : Out := storeTo s.bc s.a 2 s
/-- `LD B,d8` (R102, opcode 06). -/
def execLdBD8 (v : Byte) (s : State) : Out := ldRegImm .b v s
/-- `LD A,(BC)` (R106, opcode 0A). -/
def execLdAIndBc (s : State) : Out := loadFrom .a s.bc 2 s
/-- `LD C,d8` (R102, opcode 0E). -/
def execLdCD8 (v : Byte) (s : State) : Out := ldRegImm .c v s
/-- `LD (DE),A` (R109, opcode 12). -/
def execLdIndDeA (s : State) : Out := storeTo s.de s.a 2 s
/-- `LD D,d8` (R102, opcode 16). -/
def execLdDD8 (v : Byte) (s : State) : Out := ldRegImm .d v s
/-- `LD A,(DE)` (R107, opcode 1A). -/
def execLdAIndDe (s : State) : Out := loadFrom .a s.de 2 s
/-- `LD E,d8` (R102, opcode 1E). -/
def execLdED8 (v : Byte) (s : State) : Out := ldRegImm .e v s
/-- `LD (HL+),A` (R119, opcode 22). -/
def execLdIndHlIncA (s : State) : Out := storeToHlThen (s.hl + 1#16) s
/-- `LD H,d8` (R102, opcode 26). -/
def execLdHD8 (v : Byte) (s : State) : Out := ldRegImm .h v s
/-- `LD A,(HL+)` (R118, opcode 2A). -/
def execLdAIndHlInc (s : State) : Out := loadFromHlThen (s.hl + 1#16) s
/-- `LD L,d8` (R102, opcode 2E). -/
def execLdLD8 (v : Byte) (s : State) : Out := ldRegImm .l v s
/-- `LD (HL-),A` (R117, opcode 32). -/
def execLdIndHlDecA (s : State) : Out := storeToHlThen (s.hl - 1#16) s
/-- `LD (HL),d8` (R105, opcode 36). -/
def execLdIndHlD8 (v : Byte) (s : State) : Out := storeTo s.hl v 3 s
/-- `LD A,(HL-)` (R116, opcode 3A). -/
def execLdAIndHlDec (s : State) : Out := loadFromHlThen (s.hl - 1#16) s
/-- `LD A,d8` (R102, opcode 3E). -/
def execLdAD8 (v : Byte) (s : State) : Out := ldRegImm .a v s
/-- `LD B,B` (R101, opcode 40). -/
def execLdBB (s : State) : Out := ldRegReg .b .b s
/-- `LD B,C` (R101, opcode 41). -/
def execLdBC (s : State) : Out := ldRegReg .b .c s
/-- `LD B,D` (R101, opcode 42). -/
def execLdBD (s : State) : Out := ldRegReg .b .d s
/-- `LD B,E` (R101, opcode 43). -/
def execLdBE (s : State) : Out := ldRegReg .b .e s
/-- `LD B,H` (R101, opcode 44). -/
def execLdBH (s : State) : Out := ldRegReg .b .h s
/-- `LD B,L` (R101, opcode 45). -/
def execLdBL (s : State) : Out := ldRegReg .b .l s
/-- `LD B,(HL)` (R103, opcode 46). -/
def execLdBIndHl (s : State) : Out := loadFrom .b s.hl 2 s
/-- `LD B,A` (R101, opcode 47). -/
def execLdBA (s : State) : Out := ldRegReg .b .a s
/-- `LD C,B` (R101, opcode 48). -/
def execLdCB (s : State) : Out := ldRegReg .c .b s
/-- `LD C,C` (R101, opcode 49). -/
def execLdCC (s : State) : Out := ldRegReg .c .c s
/-- `LD C,D` (R101, opcode 4A). -/
def execLdCD (s : State) : Out := ldRegReg .c .d s
/-- `LD C,E` (R101, opcode 4B). -/
def execLdCE (s : State) : Out := ldRegReg .c .e s
/-- `LD C,H` (R101, opcode 4C). -/
def execLdCH (s : State) : Out := ldRegReg .c .h s
/-- `LD C,L` (R101, opcode 4D). -/
def execLdCL (s : State) : Out := ldRegReg .c .l s
/-- `LD C,(HL)` (R103, opcode 4E). -/
def execLdCIndHl (s : State) : Out := loadFrom .c s.hl 2 s
/-- `LD C,A` (R101, opcode 4F). -/
def execLdCA (s : State) : Out := ldRegReg .c .a s
/-- `LD D,B` (R101, opcode 50). -/
def execLdDB (s : State) : Out := ldRegReg .d .b s
/-- `LD D,C` (R101, opcode 51). -/
def execLdDC (s : State) : Out := ldRegReg .d .c s
/-- `LD D,D` (R101, opcode 52). -/
def execLdDD (s : State) : Out := ldRegReg .d .d s
/-- `LD D,E` (R101, opcode 53). -/
def execLdDE (s : State) : Out := ldRegReg .d .e s
/-- `LD D,H` (R101, opcode 54). -/
def execLdDH (s : State) : Out := ldRegReg .d .h s
/-- `LD D,L` (R101, opcode 55). -/
def execLdDL (s : State) : Out := ldRegReg .d .l s
/-- `LD D,(HL)` (R103, opcode 56). -/
def execLdDIndHl (s : State) : Out := loadFrom .d s.hl 2 s
/-- `LD D,A` (R101, opcode 57). -/
def execLdDA (s : State) : Out := ldRegReg .d .a s
/-- `LD E,B` (R101, opcode 58). -/
def execLdEB (s : State) : Out := ldRegReg .e .b s
/-- `LD E,C` (R101, opcode 59). -/
def execLdEC (s : State) : Out := ldRegReg .e .c s
/-- `LD E,D` (R101, opcode 5A). -/
def execLdED (s : State) : Out := ldRegReg .e .d s
/-- `LD E,E` (R101, opcode 5B). -/
def execLdEE (s : State) : Out := ldRegReg .e .e s
/-- `LD E,H` (R101, opcode 5C). -/
def execLdEH (s : State) : Out := ldRegReg .e .h s
/-- `LD E,L` (R101, opcode 5D). -/
def execLdEL (s : State) : Out := ldRegReg .e .l s
/-- `LD E,(HL)` (R103, opcode 5E). -/
def execLdEIndHl (s : State) : Out := loadFrom .e s.hl 2 s
/-- `LD E,A` (R101, opcode 5F). -/
def execLdEA (s : State) : Out := ldRegReg .e .a s
/-- `LD H,B` (R101, opcode 60). -/
def execLdHB (s : State) : Out := ldRegReg .h .b s
/-- `LD H,C` (R101, opcode 61). -/
def execLdHC (s : State) : Out := ldRegReg .h .c s
/-- `LD H,D` (R101, opcode 62). -/
def execLdHD (s : State) : Out := ldRegReg .h .d s
/-- `LD H,E` (R101, opcode 63). -/
def execLdHE (s : State) : Out := ldRegReg .h .e s
/-- `LD H,H` (R101, opcode 64). -/
def execLdHH (s : State) : Out := ldRegReg .h .h s
/-- `LD H,L` (R101, opcode 65). -/
def execLdHL (s : State) : Out := ldRegReg .h .l s
/-- `LD H,(HL)` (R103, opcode 66). -/
def execLdHIndHl (s : State) : Out := loadFrom .h s.hl 2 s
/-- `LD H,A` (R101, opcode 67). -/
def execLdHA (s : State) : Out := ldRegReg .h .a s
/-- `LD L,B` (R101, opcode 68). -/
def execLdLB (s : State) : Out := ldRegReg .l .b s
/-- `LD L,C` (R101, opcode 69). -/
def execLdLC (s : State) : Out := ldRegReg .l .c s
/-- `LD L,D` (R101, opcode 6A). -/
def execLdLD (s : State) : Out := ldRegReg .l .d s
/-- `LD L,E` (R101, opcode 6B). -/
def execLdLE (s : State) : Out := ldRegReg .l .e s
/-- `LD L,H` (R101, opcode 6C). -/
def execLdLH (s : State) : Out := ldRegReg .l .h s
/-- `LD L,L` (R101, opcode 6D). -/
def execLdLL (s : State) : Out := ldRegReg .l .l s
/-- `LD L,(HL)` (R103, opcode 6E). -/
def execLdLIndHl (s : State) : Out := loadFrom .l s.hl 2 s
/-- `LD L,A` (R101, opcode 6F). -/
def execLdLA (s : State) : Out := ldRegReg .l .a s
/-- `LD (HL),B` (R104, opcode 70). -/
def execLdIndHlB (s : State) : Out := storeTo s.hl s.b 2 s
/-- `LD (HL),C` (R104, opcode 71). -/
def execLdIndHlC (s : State) : Out := storeTo s.hl s.c 2 s
/-- `LD (HL),D` (R104, opcode 72). -/
def execLdIndHlD (s : State) : Out := storeTo s.hl s.d 2 s
/-- `LD (HL),E` (R104, opcode 73). -/
def execLdIndHlE (s : State) : Out := storeTo s.hl s.e 2 s
/-- `LD (HL),H` (R104, opcode 74). -/
def execLdIndHlH (s : State) : Out := storeTo s.hl s.h 2 s
/-- `LD (HL),L` (R104, opcode 75). -/
def execLdIndHlL (s : State) : Out := storeTo s.hl s.l 2 s
/-- `LD (HL),A` (R104, opcode 77). -/
def execLdIndHlA (s : State) : Out := storeTo s.hl s.a 2 s
/-- `LD A,B` (R101, opcode 78). -/
def execLdAB (s : State) : Out := ldRegReg .a .b s
/-- `LD A,C` (R101, opcode 79). -/
def execLdAC (s : State) : Out := ldRegReg .a .c s
/-- `LD A,D` (R101, opcode 7A). -/
def execLdAD (s : State) : Out := ldRegReg .a .d s
/-- `LD A,E` (R101, opcode 7B). -/
def execLdAE (s : State) : Out := ldRegReg .a .e s
/-- `LD A,H` (R101, opcode 7C). -/
def execLdAH (s : State) : Out := ldRegReg .a .h s
/-- `LD A,L` (R101, opcode 7D). -/
def execLdAL (s : State) : Out := ldRegReg .a .l s
/-- `LD A,(HL)` (R103, opcode 7E). -/
def execLdAIndHl (s : State) : Out := loadFrom .a s.hl 2 s
/-- `LD A,A` (R101, opcode 7F). -/
def execLdAA (s : State) : Out := ldRegReg .a .a s
/-- `LDH (a8),A` (R115, opcode E0). -/
def execLdhIndA8A (n : Byte) (s : State) : Out := storeTo (highPage n) s.a 3 s
/-- `LDH (C),A` (R113, opcode E2). -/
def execLdhIndCA (s : State) : Out := storeTo (highPage s.c) s.a 2 s
/-- `LD (a16),A` (R111, opcode EA). -/
def execLdIndA16A (a : Word) (s : State) : Out := storeTo a s.a 4 s
/-- `LDH A,(a8)` (R114, opcode F0). -/
def execLdhAIndA8 (n : Byte) (s : State) : Out := loadFrom .a (highPage n) 3 s
/-- `LDH A,(C)` (R112, opcode F2). -/
def execLdhAIndC (s : State) : Out := loadFrom .a (highPage s.c) 2 s
/-- `LD A,(a16)` (R110, opcode FA). -/
def execLdAIndA16 (a : Word) (s : State) : Out := loadFrom .a a 4 s

end Sys2Proof.Machine
end

