-- ==== Sys2Proof/Machine/Rotate.lean ====
section
/-! DEFINITION. The accumulator rotates and the extended rotates and shifts (spec/44_rotate_shift_bit.md R181 to R192). -/

namespace Sys2Proof.Machine

/-- `RLCA`, `RRCA`, `RLA`, `RRA`: A only, cost 1, Z cleared (R180 to R184). -/
def rotateA (op : RotOp) (s : State) : Out :=
  let r := rotateAcc op s.a s.flagC
  finish 1 (State.setFlagsOf { s with a := r.value } r)

/-- The extended rotates and shifts: cost 2 on a register, 4 on (HL) (R180, R185 to R192). -/
def rotateOperand (op : RotOp) (x : Operand8) (s : State) : Out :=
  modifyWithFlags x (fun t v => rotate op v t.flagC) (operandCost x 2 4) s

/-- `RLCA` (R181, opcode 07). -/
def execRlca (s : State) : Out := rotateA .rlc s
/-- `RRCA` (R182, opcode 0F). -/
def execRrca (s : State) : Out := rotateA .rrc s
/-- `RLA` (R183, opcode 17). -/
def execRla (s : State) : Out := rotateA .rl s
/-- `RRA` (R184, opcode 1F). -/
def execRra (s : State) : Out := rotateA .rr s
/-- `RLC B` (R185, opcode CB 00). -/
def execRlcB (s : State) : Out := rotateOperand .rlc (.reg .b) s
/-- `RLC C` (R185, opcode CB 01). -/
def execRlcC (s : State) : Out := rotateOperand .rlc (.reg .c) s
/-- `RLC D` (R185, opcode CB 02). -/
def execRlcD (s : State) : Out := rotateOperand .rlc (.reg .d) s
/-- `RLC E` (R185, opcode CB 03). -/
def execRlcE (s : State) : Out := rotateOperand .rlc (.reg .e) s
/-- `RLC H` (R185, opcode CB 04). -/
def execRlcH (s : State) : Out := rotateOperand .rlc (.reg .h) s
/-- `RLC L` (R185, opcode CB 05). -/
def execRlcL (s : State) : Out := rotateOperand .rlc (.reg .l) s
/-- `RLC (HL)` (R185, opcode CB 06). -/
def execRlcIndHl (s : State) : Out := rotateOperand .rlc .indHl s
/-- `RLC A` (R185, opcode CB 07). -/
def execRlcA (s : State) : Out := rotateOperand .rlc (.reg .a) s
/-- `RRC B` (R186, opcode CB 08). -/
def execRrcB (s : State) : Out := rotateOperand .rrc (.reg .b) s
/-- `RRC C` (R186, opcode CB 09). -/
def execRrcC (s : State) : Out := rotateOperand .rrc (.reg .c) s
/-- `RRC D` (R186, opcode CB 0A). -/
def execRrcD (s : State) : Out := rotateOperand .rrc (.reg .d) s
/-- `RRC E` (R186, opcode CB 0B). -/
def execRrcE (s : State) : Out := rotateOperand .rrc (.reg .e) s
/-- `RRC H` (R186, opcode CB 0C). -/
def execRrcH (s : State) : Out := rotateOperand .rrc (.reg .h) s
/-- `RRC L` (R186, opcode CB 0D). -/
def execRrcL (s : State) : Out := rotateOperand .rrc (.reg .l) s
/-- `RRC (HL)` (R186, opcode CB 0E). -/
def execRrcIndHl (s : State) : Out := rotateOperand .rrc .indHl s
/-- `RRC A` (R186, opcode CB 0F). -/
def execRrcA (s : State) : Out := rotateOperand .rrc (.reg .a) s
/-- `RL B` (R187, opcode CB 10). -/
def execRlB (s : State) : Out := rotateOperand .rl (.reg .b) s
/-- `RL C` (R187, opcode CB 11). -/
def execRlC (s : State) : Out := rotateOperand .rl (.reg .c) s
/-- `RL D` (R187, opcode CB 12). -/
def execRlD (s : State) : Out := rotateOperand .rl (.reg .d) s
/-- `RL E` (R187, opcode CB 13). -/
def execRlE (s : State) : Out := rotateOperand .rl (.reg .e) s
/-- `RL H` (R187, opcode CB 14). -/
def execRlH (s : State) : Out := rotateOperand .rl (.reg .h) s
/-- `RL L` (R187, opcode CB 15). -/
def execRlL (s : State) : Out := rotateOperand .rl (.reg .l) s
/-- `RL (HL)` (R187, opcode CB 16). -/
def execRlIndHl (s : State) : Out := rotateOperand .rl .indHl s
/-- `RL A` (R187, opcode CB 17). -/
def execRlA (s : State) : Out := rotateOperand .rl (.reg .a) s
/-- `RR B` (R188, opcode CB 18). -/
def execRrB (s : State) : Out := rotateOperand .rr (.reg .b) s
/-- `RR C` (R188, opcode CB 19). -/
def execRrC (s : State) : Out := rotateOperand .rr (.reg .c) s
/-- `RR D` (R188, opcode CB 1A). -/
def execRrD (s : State) : Out := rotateOperand .rr (.reg .d) s
/-- `RR E` (R188, opcode CB 1B). -/
def execRrE (s : State) : Out := rotateOperand .rr (.reg .e) s
/-- `RR H` (R188, opcode CB 1C). -/
def execRrH (s : State) : Out := rotateOperand .rr (.reg .h) s
/-- `RR L` (R188, opcode CB 1D). -/
def execRrL (s : State) : Out := rotateOperand .rr (.reg .l) s
/-- `RR (HL)` (R188, opcode CB 1E). -/
def execRrIndHl (s : State) : Out := rotateOperand .rr .indHl s
/-- `RR A` (R188, opcode CB 1F). -/
def execRrA (s : State) : Out := rotateOperand .rr (.reg .a) s
/-- `SLA B` (R189, opcode CB 20). -/
def execSlaB (s : State) : Out := rotateOperand .sla (.reg .b) s
/-- `SLA C` (R189, opcode CB 21). -/
def execSlaC (s : State) : Out := rotateOperand .sla (.reg .c) s
/-- `SLA D` (R189, opcode CB 22). -/
def execSlaD (s : State) : Out := rotateOperand .sla (.reg .d) s
/-- `SLA E` (R189, opcode CB 23). -/
def execSlaE (s : State) : Out := rotateOperand .sla (.reg .e) s
/-- `SLA H` (R189, opcode CB 24). -/
def execSlaH (s : State) : Out := rotateOperand .sla (.reg .h) s
/-- `SLA L` (R189, opcode CB 25). -/
def execSlaL (s : State) : Out := rotateOperand .sla (.reg .l) s
/-- `SLA (HL)` (R189, opcode CB 26). -/
def execSlaIndHl (s : State) : Out := rotateOperand .sla .indHl s
/-- `SLA A` (R189, opcode CB 27). -/
def execSlaA (s : State) : Out := rotateOperand .sla (.reg .a) s
/-- `SRA B` (R190, opcode CB 28). -/
def execSraB (s : State) : Out := rotateOperand .sra (.reg .b) s
/-- `SRA C` (R190, opcode CB 29). -/
def execSraC (s : State) : Out := rotateOperand .sra (.reg .c) s
/-- `SRA D` (R190, opcode CB 2A). -/
def execSraD (s : State) : Out := rotateOperand .sra (.reg .d) s
/-- `SRA E` (R190, opcode CB 2B). -/
def execSraE (s : State) : Out := rotateOperand .sra (.reg .e) s
/-- `SRA H` (R190, opcode CB 2C). -/
def execSraH (s : State) : Out := rotateOperand .sra (.reg .h) s
/-- `SRA L` (R190, opcode CB 2D). -/
def execSraL (s : State) : Out := rotateOperand .sra (.reg .l) s
/-- `SRA (HL)` (R190, opcode CB 2E). -/
def execSraIndHl (s : State) : Out := rotateOperand .sra .indHl s
/-- `SRA A` (R190, opcode CB 2F). -/
def execSraA (s : State) : Out := rotateOperand .sra (.reg .a) s
/-- `SWAP B` (R191, opcode CB 30). -/
def execSwapB (s : State) : Out := rotateOperand .swap (.reg .b) s
/-- `SWAP C` (R191, opcode CB 31). -/
def execSwapC (s : State) : Out := rotateOperand .swap (.reg .c) s
/-- `SWAP D` (R191, opcode CB 32). -/
def execSwapD (s : State) : Out := rotateOperand .swap (.reg .d) s
/-- `SWAP E` (R191, opcode CB 33). -/
def execSwapE (s : State) : Out := rotateOperand .swap (.reg .e) s
/-- `SWAP H` (R191, opcode CB 34). -/
def execSwapH (s : State) : Out := rotateOperand .swap (.reg .h) s
/-- `SWAP L` (R191, opcode CB 35). -/
def execSwapL (s : State) : Out := rotateOperand .swap (.reg .l) s
/-- `SWAP (HL)` (R191, opcode CB 36). -/
def execSwapIndHl (s : State) : Out := rotateOperand .swap .indHl s
/-- `SWAP A` (R191, opcode CB 37). -/
def execSwapA (s : State) : Out := rotateOperand .swap (.reg .a) s
/-- `SRL B` (R192, opcode CB 38). -/
def execSrlB (s : State) : Out := rotateOperand .srl (.reg .b) s
/-- `SRL C` (R192, opcode CB 39). -/
def execSrlC (s : State) : Out := rotateOperand .srl (.reg .c) s
/-- `SRL D` (R192, opcode CB 3A). -/
def execSrlD (s : State) : Out := rotateOperand .srl (.reg .d) s
/-- `SRL E` (R192, opcode CB 3B). -/
def execSrlE (s : State) : Out := rotateOperand .srl (.reg .e) s
/-- `SRL H` (R192, opcode CB 3C). -/
def execSrlH (s : State) : Out := rotateOperand .srl (.reg .h) s
/-- `SRL L` (R192, opcode CB 3D). -/
def execSrlL (s : State) : Out := rotateOperand .srl (.reg .l) s
/-- `SRL (HL)` (R192, opcode CB 3E). -/
def execSrlIndHl (s : State) : Out := rotateOperand .srl .indHl s
/-- `SRL A` (R192, opcode CB 3F). -/
def execSrlA (s : State) : Out := rotateOperand .srl (.reg .a) s

end Sys2Proof.Machine
end

