-- ==== Sys2Proof/Machine/System.lean ====
section
/-! DEFINITION. NOP, HALT, STOP, DI, EI, the prefix and the unresolved opcodes (spec/46_system.md). `step` reads an
extended instruction's two bytes at once (R70), so it never runs the row `PREFIX CB`; its meaning does what R225 says
of the byte alone (log entry 9). -/

namespace Sys2Proof.Machine

/-- Bits 7..6 of an extended opcode as 0 to 3 (R73). -/
def opcodeX (op : Byte) : Nat := op.toNat / 64

/-- Bits 5..3 of an extended opcode (R73). -/
def opcodeY (op : Byte) : Fin 8 := Fin.ofNat 8 (op.toNat / 8)

/-- Bits 2..0 of an extended opcode (R73). -/
def opcodeZ (op : Byte) : Fin 8 := Fin.ofNat 8 op.toNat

/-- The operation of an extended opcode by its fields (R83). -/
def extendedOperation (op : Byte) (s : State) : Out :=
  let x := operand8OfCode (opcodeZ op)
  match opcodeX op with
  | 0 => rotateOperand (rotOpOfCode (opcodeY op)) x s
  | 1 => testBit (opcodeY op).val x s
  | 2 => resetBit (opcodeY op).val x s
  | _ => setBitOf (opcodeY op).val x s

/-- `raise UnresolvedOpcode(op, a0)` after the fetch of the one byte: PC stays at `a0 + 1` and nothing else changes
(R226, R232). -/
def raiseUnresolved (op : Byte) (s : State) : Out := raise (.unresolvedOpcode op (s.pc - 1#16)) s

/-- `NOP` (R220, opcode 00). -/
def execNop (s : State) : Out := finish 1 s
/-- `STOP` (R222, opcode 10). -/
def execStop (_ignored : Byte) (s : State) : Out := finish 1 { s with stopped := true }
/-- `HALT` (R221, opcode 76). -/
def execHalt (s : State) : Out := finish 1 { s with halted := true }
/-- `PREFIX CB` (R225, opcode CB). -/
def execPrefixCb (s : State) : Out := andThen (fetch8 s) fun op t => extendedOperation op t
/-- `ILLEGAL_D3` (R226, opcode D3). -/
def execIllegalD3 (s : State) : Out := raiseUnresolved 0xD3#8 s
/-- `ILLEGAL_DB` (R226, opcode DB). -/
def execIllegalDB (s : State) : Out := raiseUnresolved 0xDB#8 s
/-- `ILLEGAL_DD` (R226, opcode DD). -/
def execIllegalDD (s : State) : Out := raiseUnresolved 0xDD#8 s
/-- `ILLEGAL_E3` (R226, opcode E3). -/
def execIllegalE3 (s : State) : Out := raiseUnresolved 0xE3#8 s
/-- `ILLEGAL_E4` (R226, opcode E4). -/
def execIllegalE4 (s : State) : Out := raiseUnresolved 0xE4#8 s
/-- `ILLEGAL_EB` (R226, opcode EB). -/
def execIllegalEB (s : State) : Out := raiseUnresolved 0xEB#8 s
/-- `ILLEGAL_EC` (R226, opcode EC). -/
def execIllegalEC (s : State) : Out := raiseUnresolved 0xEC#8 s
/-- `ILLEGAL_ED` (R226, opcode ED). -/
def execIllegalED (s : State) : Out := raiseUnresolved 0xED#8 s
/-- `DI` (R223, opcode F3). -/
def execDi (s : State) : Out := finish 1 { s with ime := false }
/-- `ILLEGAL_F4` (R226, opcode F4). -/
def execIllegalF4 (s : State) : Out := raiseUnresolved 0xF4#8 s
/-- `EI` (R224, opcode FB). -/
def execEi (s : State) : Out := finish 1 { s with ime := true }
/-- `ILLEGAL_FC` (R226, opcode FC). -/
def execIllegalFC (s : State) : Out := raiseUnresolved 0xFC#8 s
/-- `ILLEGAL_FD` (R226, opcode FD). -/
def execIllegalFD (s : State) : Out := raiseUnresolved 0xFD#8 s

end Sys2Proof.Machine
end

