-- ==== Sys2Proof/WellFormed.lean ====
section
/-! DEFINITION. Which terms of `Instr` are instructions by themselves. Immediates carry their width in their type, so
the one check left is that the row `PREFIX CB` is not an instruction (spec/30_encoding.md R72, R86). -/

namespace Sys2Proof

/-- Every row but `PREFIX CB`, which only routes to the extended table (R72, R225). -/
def Instr.wf (i : Instr) : Bool := decide (i ≠ .prefixCb)

end Sys2Proof
end

