-- ==== Sys2Proof/Decode.lean ====
section
/-! DEFINITION. Decoding and encoding (spec/30_encoding.md). The two tables are written as the grids of R82 and R83;
the encoder is written separately, byte by byte, from the opcodes of the instruction rules (R72, R89). -/

namespace Sys2Proof

open Machine

/-- What a primary-table entry says of the bytes that follow its opcode (R72, R81). -/
inductive Entry where
  /-- formats I0 and ILL: no further byte -/
  | alone (i : Instr)
  /-- format I8: one immediate byte -/
  | imm8 (k : Byte → Instr)
  /-- format I16: two immediate bytes, the low one first -/
  | imm16 (k : Word → Instr)
  /-- format PFX: one further byte, looked up in the extended table -/
  | extended

/-- Row 0x of the primary table (R82). -/
def primaryRow0 : Vector Entry 16 :=
  #v[.alone .nop, .imm16 .ldBcD16, .alone .ldIndBcA, .alone .incBc, .alone .incB, .alone .decB, .imm8 .ldBD8,
     .alone .rlca, .imm16 .ldIndA16Sp, .alone .addHlBc, .alone .ldAIndBc, .alone .decBc, .alone .incC,
     .alone .decC, .imm8 .ldCD8, .alone .rrca]

/-- Row 1x of the primary table (R82). -/
def primaryRow1 : Vector Entry 16 :=
  #v[.imm8 .stop, .imm16 .ldDeD16, .alone .ldIndDeA, .alone .incDe, .alone .incD, .alone .decD, .imm8 .ldDD8,
     .alone .rla, .imm8 .jrE8, .alone .addHlDe, .alone .ldAIndDe, .alone .decDe, .alone .incE, .alone .decE,
     .imm8 .ldED8, .alone .rra]

/-- Row 2x of the primary table (R82). -/
def primaryRow2 : Vector Entry 16 :=
  #v[.imm8 .jrNzE8, .imm16 .ldHlD16, .alone .ldIndHlIncA, .alone .incHl, .alone .incH, .alone .decH,
     .imm8 .ldHD8, .alone .daa, .imm8 .jrZE8, .alone .addHlHl, .alone .ldAIndHlInc, .alone .decHl, .alone .incL,
     .alone .decL, .imm8 .ldLD8, .alone .cpl]

/-- Row 3x of the primary table (R82). -/
def primaryRow3 : Vector Entry 16 :=
  #v[.imm8 .jrNcE8, .imm16 .ldSpD16, .alone .ldIndHlDecA, .alone .incSp, .alone .incIndHl, .alone .decIndHl,
     .imm8 .ldIndHlD8, .alone .scf, .imm8 .jrCE8, .alone .addHlSp, .alone .ldAIndHlDec, .alone .decSp,
     .alone .incA, .alone .decA, .imm8 .ldAD8, .alone .ccf]

/-- Row 4x of the primary table (R82). -/
def primaryRow4 : Vector Entry 16 :=
  #v[.alone .ldBB, .alone .ldBC, .alone .ldBD, .alone .ldBE, .alone .ldBH, .alone .ldBL, .alone .ldBIndHl,
     .alone .ldBA, .alone .ldCB, .alone .ldCC, .alone .ldCD, .alone .ldCE, .alone .ldCH, .alone .ldCL,
     .alone .ldCIndHl, .alone .ldCA]

/-- Row 5x of the primary table (R82). -/
def primaryRow5 : Vector Entry 16 :=
  #v[.alone .ldDB, .alone .ldDC, .alone .ldDD, .alone .ldDE, .alone .ldDH, .alone .ldDL, .alone .ldDIndHl,
     .alone .ldDA, .alone .ldEB, .alone .ldEC, .alone .ldED, .alone .ldEE, .alone .ldEH, .alone .ldEL,
     .alone .ldEIndHl, .alone .ldEA]

/-- Row 6x of the primary table (R82). -/
def primaryRow6 : Vector Entry 16 :=
  #v[.alone .ldHB, .alone .ldHC, .alone .ldHD, .alone .ldHE, .alone .ldHH, .alone .ldHL, .alone .ldHIndHl,
     .alone .ldHA, .alone .ldLB, .alone .ldLC, .alone .ldLD, .alone .ldLE, .alone .ldLH, .alone .ldLL,
     .alone .ldLIndHl, .alone .ldLA]

/-- Row 7x of the primary table (R82). -/
def primaryRow7 : Vector Entry 16 :=
  #v[.alone .ldIndHlB, .alone .ldIndHlC, .alone .ldIndHlD, .alone .ldIndHlE, .alone .ldIndHlH, .alone .ldIndHlL,
     .alone .halt, .alone .ldIndHlA, .alone .ldAB, .alone .ldAC, .alone .ldAD, .alone .ldAE, .alone .ldAH,
     .alone .ldAL, .alone .ldAIndHl, .alone .ldAA]

/-- Row 8x of the primary table (R82). -/
def primaryRow8 : Vector Entry 16 :=
  #v[.alone .addAB, .alone .addAC, .alone .addAD, .alone .addAE, .alone .addAH, .alone .addAL,
     .alone .addAIndHl, .alone .addAA, .alone .adcAB, .alone .adcAC, .alone .adcAD, .alone .adcAE,
     .alone .adcAH, .alone .adcAL, .alone .adcAIndHl, .alone .adcAA]

/-- Row 9x of the primary table (R82). -/
def primaryRow9 : Vector Entry 16 :=
  #v[.alone .subAB, .alone .subAC, .alone .subAD, .alone .subAE, .alone .subAH, .alone .subAL,
     .alone .subAIndHl, .alone .subAA, .alone .sbcAB, .alone .sbcAC, .alone .sbcAD, .alone .sbcAE,
     .alone .sbcAH, .alone .sbcAL, .alone .sbcAIndHl, .alone .sbcAA]

/-- Row Ax of the primary table (R82). -/
def primaryRowA : Vector Entry 16 :=
  #v[.alone .andAB, .alone .andAC, .alone .andAD, .alone .andAE, .alone .andAH, .alone .andAL,
     .alone .andAIndHl, .alone .andAA, .alone .xorAB, .alone .xorAC, .alone .xorAD, .alone .xorAE,
     .alone .xorAH, .alone .xorAL, .alone .xorAIndHl, .alone .xorAA]

/-- Row Bx of the primary table (R82). -/
def primaryRowB : Vector Entry 16 :=
  #v[.alone .orAB, .alone .orAC, .alone .orAD, .alone .orAE, .alone .orAH, .alone .orAL, .alone .orAIndHl,
     .alone .orAA, .alone .cpAB, .alone .cpAC, .alone .cpAD, .alone .cpAE, .alone .cpAH, .alone .cpAL,
     .alone .cpAIndHl, .alone .cpAA]

/-- Row Cx of the primary table (R82). -/
def primaryRowC : Vector Entry 16 :=
  #v[.alone .retNz, .alone .popBc, .imm16 .jpNzA16, .imm16 .jpA16, .imm16 .callNzA16, .alone .pushBc,
     .imm8 .addAD8, .alone .rst00, .alone .retZ, .alone .ret, .imm16 .jpZA16, .extended, .imm16 .callZA16,
     .imm16 .callA16, .imm8 .adcAD8, .alone .rst08]

/-- Row Dx of the primary table (R82). -/
def primaryRowD : Vector Entry 16 :=
  #v[.alone .retNc, .alone .popDe, .imm16 .jpNcA16, .alone .illegalD3, .imm16 .callNcA16, .alone .pushDe,
     .imm8 .subAD8, .alone .rst10, .alone .retC, .alone .reti, .imm16 .jpCA16, .alone .illegalDB,
     .imm16 .callCA16, .alone .illegalDD, .imm8 .sbcAD8, .alone .rst18]

/-- Row Ex of the primary table (R82). -/
def primaryRowE : Vector Entry 16 :=
  #v[.imm8 .ldhIndA8A, .alone .popHl, .alone .ldhIndCA, .alone .illegalE3, .alone .illegalE4, .alone .pushHl,
     .imm8 .andAD8, .alone .rst20, .imm8 .addSpE8, .alone .jpHl, .imm16 .ldIndA16A, .alone .illegalEB,
     .alone .illegalEC, .alone .illegalED, .imm8 .xorAD8, .alone .rst28]

/-- Row Fx of the primary table (R82). -/
def primaryRowF : Vector Entry 16 :=
  #v[.imm8 .ldhAIndA8, .alone .popAf, .alone .ldhAIndC, .alone .di, .alone .illegalF4, .alone .pushAf,
     .imm8 .orAD8, .alone .rst30, .imm8 .ldHlSpE8, .alone .ldSpHl, .imm16 .ldAIndA16, .alone .ei,
     .alone .illegalFC, .alone .illegalFD, .imm8 .cpAD8, .alone .rst38]

/-- `Primary`, 16 rows of 16 entries (R82). -/
def primaryTable : Vector (Vector Entry 16) 16 :=
  #v[primaryRow0, primaryRow1, primaryRow2, primaryRow3, primaryRow4, primaryRow5, primaryRow6, primaryRow7,
     primaryRow8, primaryRow9, primaryRowA, primaryRowB, primaryRowC, primaryRowD, primaryRowE, primaryRowF]

/-- `Primary[op]`: the row of the high nibble, the column of the low nibble (R82). -/
def primary (op : Byte) : Entry :=
  (primaryTable.get (Fin.ofNat 16 (op.toNat / 16))).get (Fin.ofNat 16 op.toNat)

/-- Group x = 0 of the extended table, one row per y: RLC, RRC, RL, RR, SLA, SRA, SWAP, SRL (R83). -/
def extendedRot : Vector (Vector Instr 8) 8 :=
  #v[#v[.rlcB, .rlcC, .rlcD, .rlcE, .rlcH, .rlcL, .rlcIndHl, .rlcA],
     #v[.rrcB, .rrcC, .rrcD, .rrcE, .rrcH, .rrcL, .rrcIndHl, .rrcA],
     #v[.rlB, .rlC, .rlD, .rlE, .rlH, .rlL, .rlIndHl, .rlA],
     #v[.rrB, .rrC, .rrD, .rrE, .rrH, .rrL, .rrIndHl, .rrA],
     #v[.slaB, .slaC, .slaD, .slaE, .slaH, .slaL, .slaIndHl, .slaA],
     #v[.sraB, .sraC, .sraD, .sraE, .sraH, .sraL, .sraIndHl, .sraA],
     #v[.swapB, .swapC, .swapD, .swapE, .swapH, .swapL, .swapIndHl, .swapA],
     #v[.srlB, .srlC, .srlD, .srlE, .srlH, .srlL, .srlIndHl, .srlA]]

/-- Group x = 1 of the extended table, one row per y: BIT 0 to BIT 7 (R83). -/
def extendedBit : Vector (Vector Instr 8) 8 :=
  #v[#v[.bit0B, .bit0C, .bit0D, .bit0E, .bit0H, .bit0L, .bit0IndHl, .bit0A],
     #v[.bit1B, .bit1C, .bit1D, .bit1E, .bit1H, .bit1L, .bit1IndHl, .bit1A],
     #v[.bit2B, .bit2C, .bit2D, .bit2E, .bit2H, .bit2L, .bit2IndHl, .bit2A],
     #v[.bit3B, .bit3C, .bit3D, .bit3E, .bit3H, .bit3L, .bit3IndHl, .bit3A],
     #v[.bit4B, .bit4C, .bit4D, .bit4E, .bit4H, .bit4L, .bit4IndHl, .bit4A],
     #v[.bit5B, .bit5C, .bit5D, .bit5E, .bit5H, .bit5L, .bit5IndHl, .bit5A],
     #v[.bit6B, .bit6C, .bit6D, .bit6E, .bit6H, .bit6L, .bit6IndHl, .bit6A],
     #v[.bit7B, .bit7C, .bit7D, .bit7E, .bit7H, .bit7L, .bit7IndHl, .bit7A]]

/-- Group x = 2 of the extended table, one row per y: RES 0 to RES 7 (R83). -/
def extendedRes : Vector (Vector Instr 8) 8 :=
  #v[#v[.res0B, .res0C, .res0D, .res0E, .res0H, .res0L, .res0IndHl, .res0A],
     #v[.res1B, .res1C, .res1D, .res1E, .res1H, .res1L, .res1IndHl, .res1A],
     #v[.res2B, .res2C, .res2D, .res2E, .res2H, .res2L, .res2IndHl, .res2A],
     #v[.res3B, .res3C, .res3D, .res3E, .res3H, .res3L, .res3IndHl, .res3A],
     #v[.res4B, .res4C, .res4D, .res4E, .res4H, .res4L, .res4IndHl, .res4A],
     #v[.res5B, .res5C, .res5D, .res5E, .res5H, .res5L, .res5IndHl, .res5A],
     #v[.res6B, .res6C, .res6D, .res6E, .res6H, .res6L, .res6IndHl, .res6A],
     #v[.res7B, .res7C, .res7D, .res7E, .res7H, .res7L, .res7IndHl, .res7A]]

/-- Group x = 3 of the extended table, one row per y: SET 0 to SET 7 (R83). -/
def extendedSet : Vector (Vector Instr 8) 8 :=
  #v[#v[.set0B, .set0C, .set0D, .set0E, .set0H, .set0L, .set0IndHl, .set0A],
     #v[.set1B, .set1C, .set1D, .set1E, .set1H, .set1L, .set1IndHl, .set1A],
     #v[.set2B, .set2C, .set2D, .set2E, .set2H, .set2L, .set2IndHl, .set2A],
     #v[.set3B, .set3C, .set3D, .set3E, .set3H, .set3L, .set3IndHl, .set3A],
     #v[.set4B, .set4C, .set4D, .set4E, .set4H, .set4L, .set4IndHl, .set4A],
     #v[.set5B, .set5C, .set5D, .set5E, .set5H, .set5L, .set5IndHl, .set5A],
     #v[.set6B, .set6C, .set6D, .set6E, .set6H, .set6L, .set6IndHl, .set6A],
     #v[.set7B, .set7C, .set7D, .set7E, .set7H, .set7L, .set7IndHl, .set7A]]

/-- `Extended`: group x, row y, column z of the opcode's fields (R73, R83). -/
def extendedTable : Vector (Vector (Vector Instr 8) 8) 4 := #v[extendedRot, extendedBit, extendedRes, extendedSet]

/-- `Extended[op2]`; no extended opcode is unresolved (R83). -/
def extended (op2 : Byte) : Instr :=
  ((extendedTable.get (Fin.ofNat 4 (op2.toNat / 64))).get (Fin.ofNat 8 (op2.toNat / 8))).get (Fin.ofNat 8 op2.toNat)

/-- Why a list of bytes holds no whole instruction. Bytes in memory never end, so `step` meets neither. -/
inductive DecodeError where
  /-- there is no opcode byte -/
  | noOpcode
  /-- an immediate byte of this opcode is missing -/
  | truncated (op : Byte)
deriving DecidableEq, Repr

/-- Read one instruction and give back the bytes after it (R71, R90). The prefix byte with nothing after it is the
row `PREFIX CB` itself. -/
def decode : List Byte → Except DecodeError (Instr × List Byte)
  | [] => .error .noOpcode
  | op :: rest =>
    match primary op with
    | .alone i => .ok (i, rest)
    | .imm8 k =>
      match rest with
      | v :: rest => .ok (k v, rest)
      | [] => .error (.truncated op)
    | .imm16 k =>
      match rest with
      | l :: h :: rest => .ok (k (join h l), rest)
      | _ => .error (.truncated op)
    | .extended =>
      match rest with
      | op2 :: rest => .ok (extended op2, rest)
      | [] => .ok (.prefixCb, [])

/-- How many bytes an instruction has, from its first byte alone (R71). -/
def lengthFromFirst (op : Byte) : Nat :=
  match primary op with
  | .alone _ => 1
  | .imm8 _ => 2
  | .imm16 _ => 3
  | .extended => 2

/-- The bytes of an instruction at ascending addresses (R72). -/
def encode : Instr → List Byte
  | .ldBcD16 v => [0x01#8, lo v, hi v]
  | .ldBD8 v => [0x06#8, v]
  | .ldIndA16Sp a => [0x08#8, lo a, hi a]
  | .ldCD8 v => [0x0E#8, v]
  | .stop ignored => [0x10#8, ignored]
  | .ldDeD16 v => [0x11#8, lo v, hi v]
  | .ldDD8 v => [0x16#8, v]
  | .jrE8 e => [0x18#8, e]
  | .ldED8 v => [0x1E#8, v]
  | .jrNzE8 e => [0x20#8, e]
  | .ldHlD16 v => [0x21#8, lo v, hi v]
  | .ldHD8 v => [0x26#8, v]
  | .jrZE8 e => [0x28#8, e]
  | .ldLD8 v => [0x2E#8, v]
  | .jrNcE8 e => [0x30#8, e]
  | .ldSpD16 v => [0x31#8, lo v, hi v]
  | .ldIndHlD8 v => [0x36#8, v]
  | .jrCE8 e => [0x38#8, e]
  | .ldAD8 v => [0x3E#8, v]
  | .jpNzA16 a => [0xC2#8, lo a, hi a]
  | .jpA16 a => [0xC3#8, lo a, hi a]
  | .callNzA16 a => [0xC4#8, lo a, hi a]
  | .addAD8 v => [0xC6#8, v]
  | .jpZA16 a => [0xCA#8, lo a, hi a]
  | .callZA16 a => [0xCC#8, lo a, hi a]
  | .callA16 a => [0xCD#8, lo a, hi a]
  | .adcAD8 v => [0xCE#8, v]
  | .jpNcA16 a => [0xD2#8, lo a, hi a]
  | .callNcA16 a => [0xD4#8, lo a, hi a]
  | .subAD8 v => [0xD6#8, v]
  | .jpCA16 a => [0xDA#8, lo a, hi a]
  | .callCA16 a => [0xDC#8, lo a, hi a]
  | .sbcAD8 v => [0xDE#8, v]
  | .ldhIndA8A n => [0xE0#8, n]
  | .andAD8 v => [0xE6#8, v]
  | .addSpE8 e => [0xE8#8, e]
  | .ldIndA16A a => [0xEA#8, lo a, hi a]
  | .xorAD8 v => [0xEE#8, v]
  | .ldhAIndA8 n => [0xF0#8, n]
  | .orAD8 v => [0xF6#8, v]
  | .ldHlSpE8 e => [0xF8#8, e]
  | .ldAIndA16 a => [0xFA#8, lo a, hi a]
  | .cpAD8 v => [0xFE#8, v]
  | .nop => [0x00#8]
  | .ldIndBcA => [0x02#8]
  | .incBc => [0x03#8]
  | .incB => [0x04#8]
  | .decB => [0x05#8]
  | .rlca => [0x07#8]
  | .addHlBc => [0x09#8]
  | .ldAIndBc => [0x0A#8]
  | .decBc => [0x0B#8]
  | .incC => [0x0C#8]
  | .decC => [0x0D#8]
  | .rrca => [0x0F#8]
  | .ldIndDeA => [0x12#8]
  | .incDe => [0x13#8]
  | .incD => [0x14#8]
  | .decD => [0x15#8]
  | .rla => [0x17#8]
  | .addHlDe => [0x19#8]
  | .ldAIndDe => [0x1A#8]
  | .decDe => [0x1B#8]
  | .incE => [0x1C#8]
  | .decE => [0x1D#8]
  | .rra => [0x1F#8]
  | .ldIndHlIncA => [0x22#8]
  | .incHl => [0x23#8]
  | .incH => [0x24#8]
  | .decH => [0x25#8]
  | .daa => [0x27#8]
  | .addHlHl => [0x29#8]
  | .ldAIndHlInc => [0x2A#8]
  | .decHl => [0x2B#8]
  | .incL => [0x2C#8]
  | .decL => [0x2D#8]
  | .cpl => [0x2F#8]
  | .ldIndHlDecA => [0x32#8]
  | .incSp => [0x33#8]
  | .incIndHl => [0x34#8]
  | .decIndHl => [0x35#8]
  | .scf => [0x37#8]
  | .addHlSp => [0x39#8]
  | .ldAIndHlDec => [0x3A#8]
  | .decSp => [0x3B#8]
  | .incA => [0x3C#8]
  | .decA => [0x3D#8]
  | .ccf => [0x3F#8]
  | .ldBB => [0x40#8]
  | .ldBC => [0x41#8]
  | .ldBD => [0x42#8]
  | .ldBE => [0x43#8]
  | .ldBH => [0x44#8]
  | .ldBL => [0x45#8]
  | .ldBIndHl => [0x46#8]
  | .ldBA => [0x47#8]
  | .ldCB => [0x48#8]
  | .ldCC => [0x49#8]
  | .ldCD => [0x4A#8]
  | .ldCE => [0x4B#8]
  | .ldCH => [0x4C#8]
  | .ldCL => [0x4D#8]
  | .ldCIndHl => [0x4E#8]
  | .ldCA => [0x4F#8]
  | .ldDB => [0x50#8]
  | .ldDC => [0x51#8]
  | .ldDD => [0x52#8]
  | .ldDE => [0x53#8]
  | .ldDH => [0x54#8]
  | .ldDL => [0x55#8]
  | .ldDIndHl => [0x56#8]
  | .ldDA => [0x57#8]
  | .ldEB => [0x58#8]
  | .ldEC => [0x59#8]
  | .ldED => [0x5A#8]
  | .ldEE => [0x5B#8]
  | .ldEH => [0x5C#8]
  | .ldEL => [0x5D#8]
  | .ldEIndHl => [0x5E#8]
  | .ldEA => [0x5F#8]
  | .ldHB => [0x60#8]
  | .ldHC => [0x61#8]
  | .ldHD => [0x62#8]
  | .ldHE => [0x63#8]
  | .ldHH => [0x64#8]
  | .ldHL => [0x65#8]
  | .ldHIndHl => [0x66#8]
  | .ldHA => [0x67#8]
  | .ldLB => [0x68#8]
  | .ldLC => [0x69#8]
  | .ldLD => [0x6A#8]
  | .ldLE => [0x6B#8]
  | .ldLH => [0x6C#8]
  | .ldLL => [0x6D#8]
  | .ldLIndHl => [0x6E#8]
  | .ldLA => [0x6F#8]
  | .ldIndHlB => [0x70#8]
  | .ldIndHlC => [0x71#8]
  | .ldIndHlD => [0x72#8]
  | .ldIndHlE => [0x73#8]
  | .ldIndHlH => [0x74#8]
  | .ldIndHlL => [0x75#8]
  | .halt => [0x76#8]
  | .ldIndHlA => [0x77#8]
  | .ldAB => [0x78#8]
  | .ldAC => [0x79#8]
  | .ldAD => [0x7A#8]
  | .ldAE => [0x7B#8]
  | .ldAH => [0x7C#8]
  | .ldAL => [0x7D#8]
  | .ldAIndHl => [0x7E#8]
  | .ldAA => [0x7F#8]
  | .addAB => [0x80#8]
  | .addAC => [0x81#8]
  | .addAD => [0x82#8]
  | .addAE => [0x83#8]
  | .addAH => [0x84#8]
  | .addAL => [0x85#8]
  | .addAIndHl => [0x86#8]
  | .addAA => [0x87#8]
  | .adcAB => [0x88#8]
  | .adcAC => [0x89#8]
  | .adcAD => [0x8A#8]
  | .adcAE => [0x8B#8]
  | .adcAH => [0x8C#8]
  | .adcAL => [0x8D#8]
  | .adcAIndHl => [0x8E#8]
  | .adcAA => [0x8F#8]
  | .subAB => [0x90#8]
  | .subAC => [0x91#8]
  | .subAD => [0x92#8]
  | .subAE => [0x93#8]
  | .subAH => [0x94#8]
  | .subAL => [0x95#8]
  | .subAIndHl => [0x96#8]
  | .subAA => [0x97#8]
  | .sbcAB => [0x98#8]
  | .sbcAC => [0x99#8]
  | .sbcAD => [0x9A#8]
  | .sbcAE => [0x9B#8]
  | .sbcAH => [0x9C#8]
  | .sbcAL => [0x9D#8]
  | .sbcAIndHl => [0x9E#8]
  | .sbcAA => [0x9F#8]
  | .andAB => [0xA0#8]
  | .andAC => [0xA1#8]
  | .andAD => [0xA2#8]
  | .andAE => [0xA3#8]
  | .andAH => [0xA4#8]
  | .andAL => [0xA5#8]
  | .andAIndHl => [0xA6#8]
  | .andAA => [0xA7#8]
  | .xorAB => [0xA8#8]
  | .xorAC => [0xA9#8]
  | .xorAD => [0xAA#8]
  | .xorAE => [0xAB#8]
  | .xorAH => [0xAC#8]
  | .xorAL => [0xAD#8]
  | .xorAIndHl => [0xAE#8]
  | .xorAA => [0xAF#8]
  | .orAB => [0xB0#8]
  | .orAC => [0xB1#8]
  | .orAD => [0xB2#8]
  | .orAE => [0xB3#8]
  | .orAH => [0xB4#8]
  | .orAL => [0xB5#8]
  | .orAIndHl => [0xB6#8]
  | .orAA => [0xB7#8]
  | .cpAB => [0xB8#8]
  | .cpAC => [0xB9#8]
  | .cpAD => [0xBA#8]
  | .cpAE => [0xBB#8]
  | .cpAH => [0xBC#8]
  | .cpAL => [0xBD#8]
  | .cpAIndHl => [0xBE#8]
  | .cpAA => [0xBF#8]
  | .retNz => [0xC0#8]
  | .popBc => [0xC1#8]
  | .pushBc => [0xC5#8]
  | .rst00 => [0xC7#8]
  | .retZ => [0xC8#8]
  | .ret => [0xC9#8]
  | .prefixCb => [0xCB#8]
  | .rst08 => [0xCF#8]
  | .retNc => [0xD0#8]
  | .popDe => [0xD1#8]
  | .illegalD3 => [0xD3#8]
  | .pushDe => [0xD5#8]
  | .rst10 => [0xD7#8]
  | .retC => [0xD8#8]
  | .reti => [0xD9#8]
  | .illegalDB => [0xDB#8]
  | .illegalDD => [0xDD#8]
  | .rst18 => [0xDF#8]
  | .popHl => [0xE1#8]
  | .ldhIndCA => [0xE2#8]
  | .illegalE3 => [0xE3#8]
  | .illegalE4 => [0xE4#8]
  | .pushHl => [0xE5#8]
  | .rst20 => [0xE7#8]
  | .jpHl => [0xE9#8]
  | .illegalEB => [0xEB#8]
  | .illegalEC => [0xEC#8]
  | .illegalED => [0xED#8]
  | .rst28 => [0xEF#8]
  | .popAf => [0xF1#8]
  | .ldhAIndC => [0xF2#8]
  | .di => [0xF3#8]
  | .illegalF4 => [0xF4#8]
  | .pushAf => [0xF5#8]
  | .rst30 => [0xF7#8]
  | .ldSpHl => [0xF9#8]
  | .ei => [0xFB#8]
  | .illegalFC => [0xFC#8]
  | .illegalFD => [0xFD#8]
  | .rst38 => [0xFF#8]
  | .rlcB => [0xCB#8, 0x00#8]
  | .rlcC => [0xCB#8, 0x01#8]
  | .rlcD => [0xCB#8, 0x02#8]
  | .rlcE => [0xCB#8, 0x03#8]
  | .rlcH => [0xCB#8, 0x04#8]
  | .rlcL => [0xCB#8, 0x05#8]
  | .rlcIndHl => [0xCB#8, 0x06#8]
  | .rlcA => [0xCB#8, 0x07#8]
  | .rrcB => [0xCB#8, 0x08#8]
  | .rrcC => [0xCB#8, 0x09#8]
  | .rrcD => [0xCB#8, 0x0A#8]
  | .rrcE => [0xCB#8, 0x0B#8]
  | .rrcH => [0xCB#8, 0x0C#8]
  | .rrcL => [0xCB#8, 0x0D#8]
  | .rrcIndHl => [0xCB#8, 0x0E#8]
  | .rrcA => [0xCB#8, 0x0F#8]
  | .rlB => [0xCB#8, 0x10#8]
  | .rlC => [0xCB#8, 0x11#8]
  | .rlD => [0xCB#8, 0x12#8]
  | .rlE => [0xCB#8, 0x13#8]
  | .rlH => [0xCB#8, 0x14#8]
  | .rlL => [0xCB#8, 0x15#8]
  | .rlIndHl => [0xCB#8, 0x16#8]
  | .rlA => [0xCB#8, 0x17#8]
  | .rrB => [0xCB#8, 0x18#8]
  | .rrC => [0xCB#8, 0x19#8]
  | .rrD => [0xCB#8, 0x1A#8]
  | .rrE => [0xCB#8, 0x1B#8]
  | .rrH => [0xCB#8, 0x1C#8]
  | .rrL => [0xCB#8, 0x1D#8]
  | .rrIndHl => [0xCB#8, 0x1E#8]
  | .rrA => [0xCB#8, 0x1F#8]
  | .slaB => [0xCB#8, 0x20#8]
  | .slaC => [0xCB#8, 0x21#8]
  | .slaD => [0xCB#8, 0x22#8]
  | .slaE => [0xCB#8, 0x23#8]
  | .slaH => [0xCB#8, 0x24#8]
  | .slaL => [0xCB#8, 0x25#8]
  | .slaIndHl => [0xCB#8, 0x26#8]
  | .slaA => [0xCB#8, 0x27#8]
  | .sraB => [0xCB#8, 0x28#8]
  | .sraC => [0xCB#8, 0x29#8]
  | .sraD => [0xCB#8, 0x2A#8]
  | .sraE => [0xCB#8, 0x2B#8]
  | .sraH => [0xCB#8, 0x2C#8]
  | .sraL => [0xCB#8, 0x2D#8]
  | .sraIndHl => [0xCB#8, 0x2E#8]
  | .sraA => [0xCB#8, 0x2F#8]
  | .swapB => [0xCB#8, 0x30#8]
  | .swapC => [0xCB#8, 0x31#8]
  | .swapD => [0xCB#8, 0x32#8]
  | .swapE => [0xCB#8, 0x33#8]
  | .swapH => [0xCB#8, 0x34#8]
  | .swapL => [0xCB#8, 0x35#8]
  | .swapIndHl => [0xCB#8, 0x36#8]
  | .swapA => [0xCB#8, 0x37#8]
  | .srlB => [0xCB#8, 0x38#8]
  | .srlC => [0xCB#8, 0x39#8]
  | .srlD => [0xCB#8, 0x3A#8]
  | .srlE => [0xCB#8, 0x3B#8]
  | .srlH => [0xCB#8, 0x3C#8]
  | .srlL => [0xCB#8, 0x3D#8]
  | .srlIndHl => [0xCB#8, 0x3E#8]
  | .srlA => [0xCB#8, 0x3F#8]
  | .bit0B => [0xCB#8, 0x40#8]
  | .bit0C => [0xCB#8, 0x41#8]
  | .bit0D => [0xCB#8, 0x42#8]
  | .bit0E => [0xCB#8, 0x43#8]
  | .bit0H => [0xCB#8, 0x44#8]
  | .bit0L => [0xCB#8, 0x45#8]
  | .bit0IndHl => [0xCB#8, 0x46#8]
  | .bit0A => [0xCB#8, 0x47#8]
  | .bit1B => [0xCB#8, 0x48#8]
  | .bit1C => [0xCB#8, 0x49#8]
  | .bit1D => [0xCB#8, 0x4A#8]
  | .bit1E => [0xCB#8, 0x4B#8]
  | .bit1H => [0xCB#8, 0x4C#8]
  | .bit1L => [0xCB#8, 0x4D#8]
  | .bit1IndHl => [0xCB#8, 0x4E#8]
  | .bit1A => [0xCB#8, 0x4F#8]
  | .bit2B => [0xCB#8, 0x50#8]
  | .bit2C => [0xCB#8, 0x51#8]
  | .bit2D => [0xCB#8, 0x52#8]
  | .bit2E => [0xCB#8, 0x53#8]
  | .bit2H => [0xCB#8, 0x54#8]
  | .bit2L => [0xCB#8, 0x55#8]
  | .bit2IndHl => [0xCB#8, 0x56#8]
  | .bit2A => [0xCB#8, 0x57#8]
  | .bit3B => [0xCB#8, 0x58#8]
  | .bit3C => [0xCB#8, 0x59#8]
  | .bit3D => [0xCB#8, 0x5A#8]
  | .bit3E => [0xCB#8, 0x5B#8]
  | .bit3H => [0xCB#8, 0x5C#8]
  | .bit3L => [0xCB#8, 0x5D#8]
  | .bit3IndHl => [0xCB#8, 0x5E#8]
  | .bit3A => [0xCB#8, 0x5F#8]
  | .bit4B => [0xCB#8, 0x60#8]
  | .bit4C => [0xCB#8, 0x61#8]
  | .bit4D => [0xCB#8, 0x62#8]
  | .bit4E => [0xCB#8, 0x63#8]
  | .bit4H => [0xCB#8, 0x64#8]
  | .bit4L => [0xCB#8, 0x65#8]
  | .bit4IndHl => [0xCB#8, 0x66#8]
  | .bit4A => [0xCB#8, 0x67#8]
  | .bit5B => [0xCB#8, 0x68#8]
  | .bit5C => [0xCB#8, 0x69#8]
  | .bit5D => [0xCB#8, 0x6A#8]
  | .bit5E => [0xCB#8, 0x6B#8]
  | .bit5H => [0xCB#8, 0x6C#8]
  | .bit5L => [0xCB#8, 0x6D#8]
  | .bit5IndHl => [0xCB#8, 0x6E#8]
  | .bit5A => [0xCB#8, 0x6F#8]
  | .bit6B => [0xCB#8, 0x70#8]
  | .bit6C => [0xCB#8, 0x71#8]
  | .bit6D => [0xCB#8, 0x72#8]
  | .bit6E => [0xCB#8, 0x73#8]
  | .bit6H => [0xCB#8, 0x74#8]
  | .bit6L => [0xCB#8, 0x75#8]
  | .bit6IndHl => [0xCB#8, 0x76#8]
  | .bit6A => [0xCB#8, 0x77#8]
  | .bit7B => [0xCB#8, 0x78#8]
  | .bit7C => [0xCB#8, 0x79#8]
  | .bit7D => [0xCB#8, 0x7A#8]
  | .bit7E => [0xCB#8, 0x7B#8]
  | .bit7H => [0xCB#8, 0x7C#8]
  | .bit7L => [0xCB#8, 0x7D#8]
  | .bit7IndHl => [0xCB#8, 0x7E#8]
  | .bit7A => [0xCB#8, 0x7F#8]
  | .res0B => [0xCB#8, 0x80#8]
  | .res0C => [0xCB#8, 0x81#8]
  | .res0D => [0xCB#8, 0x82#8]
  | .res0E => [0xCB#8, 0x83#8]
  | .res0H => [0xCB#8, 0x84#8]
  | .res0L => [0xCB#8, 0x85#8]
  | .res0IndHl => [0xCB#8, 0x86#8]
  | .res0A => [0xCB#8, 0x87#8]
  | .res1B => [0xCB#8, 0x88#8]
  | .res1C => [0xCB#8, 0x89#8]
  | .res1D => [0xCB#8, 0x8A#8]
  | .res1E => [0xCB#8, 0x8B#8]
  | .res1H => [0xCB#8, 0x8C#8]
  | .res1L => [0xCB#8, 0x8D#8]
  | .res1IndHl => [0xCB#8, 0x8E#8]
  | .res1A => [0xCB#8, 0x8F#8]
  | .res2B => [0xCB#8, 0x90#8]
  | .res2C => [0xCB#8, 0x91#8]
  | .res2D => [0xCB#8, 0x92#8]
  | .res2E => [0xCB#8, 0x93#8]
  | .res2H => [0xCB#8, 0x94#8]
  | .res2L => [0xCB#8, 0x95#8]
  | .res2IndHl => [0xCB#8, 0x96#8]
  | .res2A => [0xCB#8, 0x97#8]
  | .res3B => [0xCB#8, 0x98#8]
  | .res3C => [0xCB#8, 0x99#8]
  | .res3D => [0xCB#8, 0x9A#8]
  | .res3E => [0xCB#8, 0x9B#8]
  | .res3H => [0xCB#8, 0x9C#8]
  | .res3L => [0xCB#8, 0x9D#8]
  | .res3IndHl => [0xCB#8, 0x9E#8]
  | .res3A => [0xCB#8, 0x9F#8]
  | .res4B => [0xCB#8, 0xA0#8]
  | .res4C => [0xCB#8, 0xA1#8]
  | .res4D => [0xCB#8, 0xA2#8]
  | .res4E => [0xCB#8, 0xA3#8]
  | .res4H => [0xCB#8, 0xA4#8]
  | .res4L => [0xCB#8, 0xA5#8]
  | .res4IndHl => [0xCB#8, 0xA6#8]
  | .res4A => [0xCB#8, 0xA7#8]
  | .res5B => [0xCB#8, 0xA8#8]
  | .res5C => [0xCB#8, 0xA9#8]
  | .res5D => [0xCB#8, 0xAA#8]
  | .res5E => [0xCB#8, 0xAB#8]
  | .res5H => [0xCB#8, 0xAC#8]
  | .res5L => [0xCB#8, 0xAD#8]
  | .res5IndHl => [0xCB#8, 0xAE#8]
  | .res5A => [0xCB#8, 0xAF#8]
  | .res6B => [0xCB#8, 0xB0#8]
  | .res6C => [0xCB#8, 0xB1#8]
  | .res6D => [0xCB#8, 0xB2#8]
  | .res6E => [0xCB#8, 0xB3#8]
  | .res6H => [0xCB#8, 0xB4#8]
  | .res6L => [0xCB#8, 0xB5#8]
  | .res6IndHl => [0xCB#8, 0xB6#8]
  | .res6A => [0xCB#8, 0xB7#8]
  | .res7B => [0xCB#8, 0xB8#8]
  | .res7C => [0xCB#8, 0xB9#8]
  | .res7D => [0xCB#8, 0xBA#8]
  | .res7E => [0xCB#8, 0xBB#8]
  | .res7H => [0xCB#8, 0xBC#8]
  | .res7L => [0xCB#8, 0xBD#8]
  | .res7IndHl => [0xCB#8, 0xBE#8]
  | .res7A => [0xCB#8, 0xBF#8]
  | .set0B => [0xCB#8, 0xC0#8]
  | .set0C => [0xCB#8, 0xC1#8]
  | .set0D => [0xCB#8, 0xC2#8]
  | .set0E => [0xCB#8, 0xC3#8]
  | .set0H => [0xCB#8, 0xC4#8]
  | .set0L => [0xCB#8, 0xC5#8]
  | .set0IndHl => [0xCB#8, 0xC6#8]
  | .set0A => [0xCB#8, 0xC7#8]
  | .set1B => [0xCB#8, 0xC8#8]
  | .set1C => [0xCB#8, 0xC9#8]
  | .set1D => [0xCB#8, 0xCA#8]
  | .set1E => [0xCB#8, 0xCB#8]
  | .set1H => [0xCB#8, 0xCC#8]
  | .set1L => [0xCB#8, 0xCD#8]
  | .set1IndHl => [0xCB#8, 0xCE#8]
  | .set1A => [0xCB#8, 0xCF#8]
  | .set2B => [0xCB#8, 0xD0#8]
  | .set2C => [0xCB#8, 0xD1#8]
  | .set2D => [0xCB#8, 0xD2#8]
  | .set2E => [0xCB#8, 0xD3#8]
  | .set2H => [0xCB#8, 0xD4#8]
  | .set2L => [0xCB#8, 0xD5#8]
  | .set2IndHl => [0xCB#8, 0xD6#8]
  | .set2A => [0xCB#8, 0xD7#8]
  | .set3B => [0xCB#8, 0xD8#8]
  | .set3C => [0xCB#8, 0xD9#8]
  | .set3D => [0xCB#8, 0xDA#8]
  | .set3E => [0xCB#8, 0xDB#8]
  | .set3H => [0xCB#8, 0xDC#8]
  | .set3L => [0xCB#8, 0xDD#8]
  | .set3IndHl => [0xCB#8, 0xDE#8]
  | .set3A => [0xCB#8, 0xDF#8]
  | .set4B => [0xCB#8, 0xE0#8]
  | .set4C => [0xCB#8, 0xE1#8]
  | .set4D => [0xCB#8, 0xE2#8]
  | .set4E => [0xCB#8, 0xE3#8]
  | .set4H => [0xCB#8, 0xE4#8]
  | .set4L => [0xCB#8, 0xE5#8]
  | .set4IndHl => [0xCB#8, 0xE6#8]
  | .set4A => [0xCB#8, 0xE7#8]
  | .set5B => [0xCB#8, 0xE8#8]
  | .set5C => [0xCB#8, 0xE9#8]
  | .set5D => [0xCB#8, 0xEA#8]
  | .set5E => [0xCB#8, 0xEB#8]
  | .set5H => [0xCB#8, 0xEC#8]
  | .set5L => [0xCB#8, 0xED#8]
  | .set5IndHl => [0xCB#8, 0xEE#8]
  | .set5A => [0xCB#8, 0xEF#8]
  | .set6B => [0xCB#8, 0xF0#8]
  | .set6C => [0xCB#8, 0xF1#8]
  | .set6D => [0xCB#8, 0xF2#8]
  | .set6E => [0xCB#8, 0xF3#8]
  | .set6H => [0xCB#8, 0xF4#8]
  | .set6L => [0xCB#8, 0xF5#8]
  | .set6IndHl => [0xCB#8, 0xF6#8]
  | .set6A => [0xCB#8, 0xF7#8]
  | .set7B => [0xCB#8, 0xF8#8]
  | .set7C => [0xCB#8, 0xF9#8]
  | .set7D => [0xCB#8, 0xFA#8]
  | .set7E => [0xCB#8, 0xFB#8]
  | .set7H => [0xCB#8, 0xFC#8]
  | .set7L => [0xCB#8, 0xFD#8]
  | .set7IndHl => [0xCB#8, 0xFE#8]
  | .set7A => [0xCB#8, 0xFF#8]

/-- The bytes of a table word, lowest address first. A 16-bit word whose high byte is the prefix is an extended row,
which the table numbers `byte0 byte1` with byte 0 in the high bits (R90); any other word is read with its first byte
in the low bits (log entry 10). -/
def tableWordBytes (nbits w : Nat) : List Byte :=
  if nbits = 16 ∧ w / 256 = 0xCB then [0xCB#8, BitVec.ofNat 8 w]
  else (List.range (nbits / 8)).map fun k => BitVec.ofNat 8 (w / 256 ^ k)

/-- The bytes of a table word followed by zero for each immediate byte the table gives no bits. The row of the prefix
is one byte long. -/
def tableInstrBytes (nbits w : Nat) : List Byte :=
  let bytes := tableWordBytes nbits w
  match bytes with
  | [op] => if op = 0xCB#8 then bytes else bytes ++ List.replicate (lengthFromFirst op - 1) 0#8
  | _ => bytes

/-- The instruction the decoder reads from a word of spec/opcode_table.json. -/
def decodeTableWord (nbits w : Nat) : Option Instr :=
  match decode (tableInstrBytes nbits w) with
  | .ok (i, _) => some i
  | .error _ => none

end Sys2Proof
end

