-- ==== Sys2Proof/Machine/Fetch.lean ====
section
/-! DEFINITION. Fetching one instruction from memory (spec/30_encoding.md R70; spec/20_memory.md R56, R57, R60): the
opcode byte, the byte after the prefix, the immediates, each advancing PC; and placing a table word where the next
step fetches. -/

namespace Sys2Proof.Machine

/-- The fetch part of `Step` (R70): the instruction and the state with PC past every byte of it. All bytes of an
instruction are fetched before its first data access (R60), so its meaning can run afterwards. -/
def fetchInstr (s : State) : Res Instr :=
  andThen (fetch8 s) fun op s1 =>
  match primary op with
  | .alone i => .next (i, s1)
  | .imm8 k => andThen (fetch8 s1) fun v s2 => .next (k v, s2)
  | .imm16 k => andThen (fetch16 s1) fun v s2 => .next (k v, s2)
  | .extended => andThen (fetch8 s1) fun op2 s2 => .next (extended op2, s2)

/-- Store bytes at ascending addresses from `x` on (modulo 2^16), as the shell may between steps (R246). -/
def placeBytes (m : List Host.Cell) (x : Word) : List Byte → List Host.Cell
  | [] => m
  | v :: vs => placeBytes (Memory.set m x.toNat v) (x + 1#16) vs

/-- The three bytes from PC on hold the bytes of a table word and zeros; the regions that would hide them and the
fault latch, which would keep `step` from fetching, are taken away. -/
def placeTableWord (s : State) (nbits w : Nat) : State :=
  let bytes := (tableWordBytes nbits w ++ [0#8, 0#8, 0#8]).take 3
  { s with
    mem := placeBytes s.mem s.pc bytes
    regions := s.regions.filter fun r =>
      !(regionCovers r s.pc || regionCovers r (s.pc + 1#16) || regionCovers r (s.pc + 2#16))
    faulted := false }

/-- The whole of `Step` but for the instruction's meaning `run`: a faulted core has no step (R230); otherwise the
instruction is fetched and run (R70). -/
def stepWith (run : Instr → State → Out) (s : State) : Out :=
  if s.faulted then .fault .stepWhileFaulted else andThen (fetchInstr s) run

end Sys2Proof.Machine
end

