-- ==== Sys2Proof/Machine/Step.lean ====
section
/-! DEFINITION. `Step` (spec/30_encoding.md R70) and the placing of a table word for the host. -/

namespace Sys2Proof.Machine

/-- One call of `Step`: exactly one instruction, or a fault (R70, R230). -/
def step (s : State) : Host.Outcome State Fault Refusal := stepWith exec s

/-- `s` with the instruction of a table word stored where `step` fetches next (log entries 10 and 11). -/
def State.withFetchWord (s : State) (nbits w : Nat) : State := placeTableWord s nbits w

end Sys2Proof.Machine
end

