-- ==== Sys2Proof/Machine/Shell.lean ====
section
/-! DEFINITION. What the host (the application shell) may do to the core between two steps (spec/60_exceptions.md R246),
none of which is part of `step`. Servicing an interrupt is informative in the spec (R237) and stands here as the host
move of a core-plus-shell model (spec/92_eei_decisions.md D20; log entry 14). -/

namespace Sys2Proof.Machine

/-- `ClockReset()` (R33). -/
def State.clockReset (s : State) : State :=
  { s with clk := { m := 0, t := 0, totalM := 0, totalT := 0 } }

/-- The five interrupt vectors, `0x0040 + 8*i` (R237). -/
def interruptVector (i : Fin 5) : Word := 0x0040#16 + BitVec.ofNat 16 (8 * i.val)

/-- The lowest set bit of the five pending bits, which has the highest priority (R237). -/
def lowestPending (pending : Byte) : Option (Fin 5) :=
  if pending.getLsbD 0 then some 0 else if pending.getLsbD 1 then some 1
  else if pending.getLsbD 2 then some 2 else if pending.getLsbD 3 then some 3
  else if pending.getLsbD 4 then some 4 else none

/-- The shell's interrupt procedure between two steps (R237, informative): IE at 0xFFFF, IF at 0xFF0F. A pending
interrupt ends HALT whatever `ime` is; with `ime` set the lowest one is taken. The five cycles are the shell's own
and do not touch the core's clock. Where the Memory Unit fails one of the shell's own accesses (IE, IF, the two stack
bytes) R237 is silent and R53 speaks of a step only: the model ends the move in `memoryAccessFailure` with the core's
latch set, as a step would. DESIGN CHOICE, safe (log entry 23). -/
def serviceInterrupt (s : State) : Out :=
  andThen (memRead s 0xFFFF#16) fun enabled s =>
  andThen (memRead s 0xFF0F#16) fun flagged s =>
  match lowestPending (enabled &&& flagged) with
  | none => .next s
  | some i =>
    let s := { s with halted := false }
    if s.ime then
      thenDo (memWrite s 0xFF0F#16 (flagged &&& ~~~(1#8 <<< i.val))) fun s =>
      thenDo (push16 { s with ime := false } s.pc) fun s =>
      .next { s with pc := interruptVector i }
    else .next s

/-- The moves of the host between steps (R246). -/
inductive ShellMove where
  /-- discard the core and construct another on the same Memory Unit (R38, R260) -/
  | reconstruct
  /-- call `Step()` -/
  | step
  /-- `ClockReset()` -/
  | resetClock
  /-- change one byte of memory behind the interface -/
  | changeMemory (x : Word) (v : Byte)
  /-- let the devices inside the Memory Unit change what it remembers (R61) -/
  | changeUnit (u : Config.UnitState)
  /-- clear `halted` -/
  | wakeHalted
  /-- clear `stopped` -/
  | wakeStopped
  /-- the interrupt procedure of R237 -/
  | service
deriving DecidableEq, Repr

/-- What a move does. -/
def shellMove (mv : ShellMove) (s : State) : Out :=
  match mv with
  | .reconstruct => .next (State.construct s.mem s.regions s.unit s.clockBits)
  | .step => step s
  | .resetClock => .next s.clockReset
  | .changeMemory x v => .next { s with mem := Memory.set s.mem x.toNat v }
  | .changeUnit u => .next { s with unit := u }
  | .wakeHalted => .next { s with halted := false }
  | .wakeStopped => .next { s with stopped := false }
  | .service => serviceInterrupt s

/-- The core as a fault leaves it, which the shell can still read (R238). -/
def faultLeft : Fault → Option State
  | .bitIndexOutOfRange _ => none
  | .unresolvedOpcode _ _ left => some left
  | .memoryAccessFailure _ left => some left
  | .stepWhileFaulted => none

/-- The fault code of a fault's class (R231 to R233); the stuck core has none. -/
def faultCode : Fault → Option Nat
  | .bitIndexOutOfRange _ => some 1
  | .unresolvedOpcode _ _ _ => some 2
  | .memoryAccessFailure _ _ => some 3
  | .stepWhileFaulted => none

end Sys2Proof.Machine
end

