-- ==== Sys2Proof/Safety.lean ====
section
/-! DEFINITION. What counts as a safe state and the terms claims are stated in: the invariant of the core, what a
state keeps of an earlier one (frames), what an access may do, and the values the rules give, written as arithmetic
on numbers independently of the model's own bit operations. -/

namespace Sys2Proof.Machine

/-- `F[3:0] == 0` (spec/10_state.md R24). -/
def FlagNibbleZero (s : State) : Prop := s.f &&& 0x0F#8 = 0#8

/-- The counters are below `2^CLOCK_BITS` and the clock cycles are four times the machine cycles, modulo it (R31). -/
def ClockInv (s : State) : Prop :=
  s.clk.m < 2 ^ s.clockBits ∧ s.clk.totalM < 2 ^ s.clockBits ∧
  s.clk.t = (4 * s.clk.m) % 2 ^ s.clockBits ∧ s.clk.totalT = (4 * s.clk.totalM) % 2 ^ s.clockBits

/-- Memory is in its canonical form (the model's own representation of R50). -/
def MemInv (s : State) : Prop := Memory.wf s.mem = true

/-- The invariant of every state the core can reach. -/
def Inv (s : State) : Prop := FlagNibbleZero s ∧ ClockInv s ∧ MemInv s

/-- The Memory Unit takes a write of `v` at `x`; what it does with it is its own matter (R52). -/
def State.canWrite (s : State) (x : Word) (v : Byte) : Prop := s.storeFailure x v = none

/-- The Memory Unit stores what is written at `x` and returns what it stored (R69). -/
def State.isRam (s : State) (x : Word) : Prop :=
  readPolicyAt s.regions x = .stored ∧ writePolicyAt s.regions x = .stored

/-- The Memory Unit is in `t` as it was in `s`: it remembers the same, and every address reads alike. -/
def SameMemory (s t : State) : Prop := t.unit = s.unit ∧ ∀ x, t.load x = s.load x

/-- Every address but those of `xs` reads in `t` as it read in `s`. Where the Memory Unit itself answers an address and
itself reacts to a write at one of `xs`, the address may read otherwise: the write may have switched a bank (R52). -/
def SameMemoryBut (xs : List Word) (s t : State) : Prop :=
  ∀ y, y ∉ xs → (readPolicyAt s.regions y = .unit → ∀ x ∈ xs, writePolicyAt s.regions x ≠ .unit) → t.load y = s.load y

/-- What a store of `v` at `x` between `s` and `t` shows at `x` itself: the byte where the Memory Unit is RAM there,
the old contents where it ignores the write and does not answer the address by itself. -/
def ShowsStored (x : Word) (v : Byte) (s t : State) : Prop :=
  (MemInv s → s.isRam x → t.load x = .ok v) ∧
  (writePolicyAt s.regions x = .ignored → readPolicyAt s.regions x ≠ .unit → t.load x = s.load x)

/-- Exactly the byte at `x` is stored to, with `v`; what the Memory Unit remembers is what its own reaction to this
one write leaves. -/
def Stores (x : Word) (v : Byte) (s t : State) : Prop :=
  SameMemoryBut [x] s t ∧ ShowsStored x v s t ∧ t.unit = (s.afterStore x v).unit

/-- Exactly two bytes are stored to, first `v` at `x` and then `w` at `y` (R54, R60). -/
def StoresTwo (x : Word) (v : Byte) (y : Word) (w : Byte) (s t : State) : Prop :=
  SameMemoryBut [x, y] s t ∧ ShowsStored x v s t ∧ ShowsStored y w s t ∧
  t.unit = ((s.afterStore x v).afterStore y w).unit

/-- The Memory Unit takes both bytes of a push of `v`: the high one at SP - 1, then the low one at SP - 2 (R58). -/
def State.canPush (s : State) (v : Word) : Prop :=
  s.canWrite (s.sp - 1#16) (hi v) ∧ (s.afterStore (s.sp - 1#16) (hi v)).canWrite (s.sp - 2#16) (lo v)

/-- `t` is `s` with `v` pushed, the clock and PC aside: the high byte stored at SP - 1, then the low one at SP - 2, SP
two lower (R58). -/
def Pushed (v : Word) (s t : State) : Prop :=
  StoresTwo (s.sp - 1#16) (hi v) (s.sp - 2#16) (lo v) s t ∧ t.sp = s.sp - 2#16

/-- A pop reads `low` at SP and then `high` at SP + 1 (R59). -/
def State.popReads (s : State) (low high : Byte) : Prop :=
  s.load s.sp = .ok low ∧ (s.afterLoad s.sp).load (s.sp + 1#16) = .ok high

/-- The state after the two reads of a pop, SP not moved yet (R59): only what the Memory Unit remembers may differ. -/
def State.afterPop (s : State) : State := (s.afterLoad s.sp).afterLoad (s.sp + 1#16)

/-- Every register of table `r8` but those of `rs` is unchanged. -/
def SameRegsBut (rs : List Reg8) (s t : State) : Prop := ∀ r, r ∉ rs → t.reg r = s.reg r

/-- What an instruction may change besides the registers of table `r8` and the clock. -/
inductive Part where
  | flags | pc | sp | memory | ime | halted | stopped
deriving DecidableEq, Repr

/-- Everything besides the registers of table `r8` and the clock is unchanged, but for the parts listed: F, PC, SP,
every byte of memory and what the Memory Unit remembers, the bits shown to the shell; the latch, the ranges of the
Memory Unit and the width of the counters never change. -/
def Keeps (changed : List Part) (s t : State) : Prop :=
  (Part.flags ∉ changed → t.f = s.f) ∧ (Part.pc ∉ changed → t.pc = s.pc) ∧ (Part.sp ∉ changed → t.sp = s.sp) ∧
  (Part.memory ∉ changed → SameMemory s t) ∧ (Part.ime ∉ changed → t.ime = s.ime) ∧
  (Part.halted ∉ changed → t.halted = s.halted) ∧ (Part.stopped ∉ changed → t.stopped = s.stopped) ∧
  t.faulted = s.faulted ∧ t.regions = s.regions ∧ t.clockBits = s.clockBits

/-- The step recorded a cost of `n` machine cycles (R32), the counters being truncated to their width (R6). -/
def Costs (n : Nat) (s t : State) : Prop :=
  t.clk.m = n % 2 ^ s.clockBits ∧ t.clk.t = (4 * n) % 2 ^ s.clockBits ∧
  t.clk.totalM = (s.clk.totalM + n) % 2 ^ s.clockBits ∧
  t.clk.totalT = (s.clk.totalT + 4 * n) % 2 ^ s.clockBits

/-- The four flags of `t` have these values and its low nibble is zero (R24, R27). -/
def FlagsAre (t : State) (z n h c : Bool) : Prop :=
  t.flagZ = z ∧ t.flagN = n ∧ t.flagH = h ∧ t.flagC = c ∧ FlagNibbleZero t

/-- The instruction ends with the Memory Unit's failure and leaves the core as `left`, with its latch set (R233). -/
def FailsLeaving (i : Instr) (s : State) (info : MemInfo) (left : State) : Prop :=
  exec i s = .fault (.memoryAccessFailure info { left with faulted := true })

/-- The bytes at ascending addresses from `x` on, modulo 2^16, read one after the other; `u` is the state after. -/
def ReadsBytes (s : State) (x : Word) (bs : List Byte) (u : State) : Prop :=
  match bs with
  | [] => u = s
  | v :: vs => s.load x = .ok v ∧ ReadsBytes (s.afterLoad x) (x + 1#16) vs u

/-- `i` is one of the three forms of the ALU operation `op`, its source operand is `v` in `s`, it costs `n`, and `u` is
`s` after the operand is read (R141). -/
def AluForm (op : AluOp) (i : Instr) (v : Byte) (n : Nat) (s u : State) : Prop :=
  (∃ r, i = Instr.alu op (.reg r) ∧ v = s.reg r ∧ n = 1 ∧ u = s) ∨
  (i = Instr.alu op .indHl ∧ s.load s.hl = .ok v ∧ n = 2 ∧ u = s.afterLoad s.hl) ∨
  (i = Instr.aluImm op v ∧ n = 2 ∧ u = s)

/-- The operand `x` holds `v` in `s` and, being memory, is read without failing (R74). -/
def OperandHolds (x : Operand8) (v : Byte) (s : State) : Prop :=
  match x with
  | .reg r => s.reg r = v
  | .indHl => s.load s.hl = .ok v

/-- The state after the operand `x` is read: only a read of memory may change something, what the Memory Unit
remembers. -/
def State.afterOperand (s : State) (x : Operand8) : State :=
  match x with
  | .reg _ => s
  | .indHl => s.afterLoad s.hl

/-- The byte of an opcode given as a number. -/
def opcode (n : Nat) : Byte := BitVec.ofNat 8 n

/-- The code of a register in table `r8` (R74). -/
def regCode : Reg8 → Nat
  | .b => 0 | .c => 1 | .d => 2 | .e => 3 | .h => 4 | .l => 5 | .a => 7

/-- The code of an operand in table `r8` (R74). -/
def operandCode : Operand8 → Nat
  | .reg r => regCode r
  | .indHl => 6

/-- The code in table `r16` (R75). -/
def reg16Code : Reg16 → Nat
  | .bc => 0 | .de => 1 | .hl => 2 | .sp => 3

/-- The code in table `r16stk` (R76). -/
def stackPairCode : StackPair → Nat
  | .bc => 0 | .de => 1 | .hl => 2 | .af => 3

/-- The code in table `cc` (R78). -/
def condCode : Cond → Nat
  | .nz => 0 | .z => 1 | .nc => 2 | .c => 3

/-- The code in table `alu` (R79). -/
def aluCode : AluOp → Nat
  | .add => 0 | .adc => 1 | .sub => 2 | .sbc => 3 | .and => 4 | .xor => 5 | .or => 6 | .cp => 7

/-- The code in table `rot` (R80). -/
def rotCode : RotOp → Nat
  | .rlc => 0 | .rrc => 1 | .rl => 2 | .rr => 3 | .sla => 4 | .sra => 5 | .swap => 6 | .srl => 7

/-- The operand `x` can be written with `v`: a register always, memory where the Memory Unit takes the write. -/
def OperandWritable (x : Operand8) (v : Byte) (s : State) : Prop :=
  match x with
  | .reg _ => True
  | .indHl => s.canWrite s.hl v

/-- Between `s` and `t` exactly the operand `x` of table `r8` was written, with `v`; no other register of the table
and no other byte of memory. -/
def OperandWritten (x : Operand8) (v : Byte) (s t : State) : Prop :=
  match x with
  | .reg r => t.reg r = v ∧ SameRegsBut [r] s t ∧ SameMemory s t
  | .indHl => SameRegsBut [] s t ∧ Stores s.hl v s t

/-- The memory form of an instruction that reads the byte at HL ends with the failure of that read. -/
def OperandReadFails (i : Instr) (s : State) : Prop :=
  ∀ info, s.load s.hl = .error info → FailsLeaving i s info (s.afterLoad s.hl)

/-- The memory form of an instruction that has read the byte at HL and writes `v` back ends with the failure of that
write. -/
def OperandWriteFails (i : Instr) (x : Operand8) (v : Byte) (s : State) : Prop :=
  ∀ info, x = .indHl → (s.afterLoad s.hl).storeFailure s.hl v = some info →
    FailsLeaving i s info ((s.afterLoad s.hl).afterStore s.hl v)

/-- An instruction that pushes `v` ends with the failure of the first write, SP one lower, or with that of the second,
SP two lower and the high byte stored (R58, R233). -/
def PushFails (i : Instr) (v : Word) (s : State) : Prop :=
  let s1 := s.afterStore (s.sp - 1#16) (hi v)
  (∀ info, s.storeFailure (s.sp - 1#16) (hi v) = some info →
    FailsLeaving i s info { s1 with sp := s.sp - 1#16 }) ∧
  (∀ info, s.canWrite (s.sp - 1#16) (hi v) → s1.storeFailure (s.sp - 2#16) (lo v) = some info →
    Stores (s.sp - 1#16) (hi v) s s1 ∧
    FailsLeaving i s info { s1.afterStore (s.sp - 2#16) (lo v) with sp := s.sp - 2#16 })

/-- An instruction that pops ends with the failure of the first read, SP not moved, or with that of the second, SP one
higher; no register is written (R59, R233). -/
def PopFails (i : Instr) (s : State) : Prop :=
  (∀ info, s.load s.sp = .error info → FailsLeaving i s info (s.afterLoad s.sp)) ∧
  (∀ l info, s.load s.sp = .ok l → (s.afterLoad s.sp).load (s.sp + 1#16) = .error info →
    FailsLeaving i s info { s.afterPop with sp := s.sp + 1#16 })

/-- The cost on a register and on (HL). -/
def operandForms (x : Operand8) (onReg onMem : Nat) : Nat :=
  match x with
  | .reg _ => onReg
  | .indHl => onMem

/-- The value of a rotate or shift of the number `v` with carry `k` (R185 to R192), as arithmetic. -/
def rotatedNat (op : RotOp) (v k : Nat) : Nat :=
  match op with
  | .rlc => (2 * v) % 256 + v / 128
  | .rrc => v / 2 + 128 * (v % 2)
  | .rl => (2 * v) % 256 + k
  | .rr => v / 2 + 128 * k
  | .sla => (2 * v) % 256
  | .sra => v / 2 + 128 * (v / 128)
  | .swap => 16 * (v % 16) + v / 16
  | .srl => v / 2

/-- The carry of a rotate or shift of the number `v` (R185 to R192): bit 7 to the left, bit 0 to the right, none for
`SWAP`. -/
def rotatedCarry (op : RotOp) (v : Nat) : Bool :=
  match op with
  | .rlc | .rl | .sla => decide (128 ≤ v)
  | .rrc | .rr | .sra | .srl => decide (v % 2 = 1)
  | .swap => false

/-- The state without the clock and the three bits the core never reads (R31, R34, R35). -/
def State.withoutOutputs (s : State) : State :=
  { s with clk := { m := 0, t := 0, totalM := 0, totalT := 0 }, ime := false, halted := false, stopped := false }

/-- A fault with the outputs taken out of the state it leaves. -/
def Fault.withoutOutputs : Fault → Fault
  | .bitIndexOutOfRange n => .bitIndexOutOfRange n
  | .unresolvedOpcode op a0 left => .unresolvedOpcode op a0 left.withoutOutputs
  | .memoryAccessFailure info left => .memoryAccessFailure info left.withoutOutputs
  | .stepWhileFaulted => .stepWhileFaulted

/-- An outcome with the outputs taken out of the state it carries. -/
def outcomeWithoutOutputs : Out → Out
  | .next t => .next t.withoutOutputs
  | .fault x => .fault x.withoutOutputs
  | .refused r => .refused r

end Sys2Proof.Machine
end

