-- ==== Sys2Proof/Certificates/Slice0/Obligations.lean ====
section
/-! DEFINITION. The statements for the provers, from the numbered rules of spec/. In every statement about `exec` the
state `s` is the core after the instruction's bytes have been fetched, so `s.pc` is the address after it (R29, R60);
`StepRunsDecodedInstruction` carries each of them to `step`. Where a rule is marked as the spec's own decision, the
docstring names the decision (D, spec/92_eei_decisions.md). In every clause about a failing access the fault value
carries the core as the failure leaves it: what has happened before the access stays, nothing after it happens, no
`Tick` (R230, R233, D13, D18; log entries 6 and 17). Every statement holds for every Memory Unit (P7, log entry 1):
`s.afterLoad x` and `s.afterStore x v` are `s` after the Memory Unit's read and write, which
`MemoryUnitAnswersEveryAccess` describes; they differ from `s` only in memory and in what the Memory Unit remembers. -/

open Sys2Proof Sys2Proof.Machine

/-- R7, R8: the bit primitives read and force one bit for an index in 0..7, and are fatal above; setting then clearing
a bit clears it and leaves the others (90_conflicts.md C9). -/
def Obligations.BitPrimitivesReadForceAndFault : Prop :=
  (∀ (v : Byte) (n : Nat), n ≤ 7 → hasBitSet v n = .next (decide (v.toNat / 2 ^ n % 2 = 1))) ∧
  (∀ (v : Byte) (n : Nat), 7 < n → hasBitSet v n = .fault (.bitIndexOutOfRange n)) ∧
  (∀ (v : Byte) (n : Nat) (set : Bool), n ≤ 7 →
    ∃ r, setBit v n set = .next r ∧ r.getLsbD n = set ∧ ∀ k, k ≠ n → r.getLsbD k = v.getLsbD k) ∧
  (∀ (v : Byte) (n : Nat) (set : Bool), 7 < n → setBit v n set = .fault (.bitIndexOutOfRange n)) ∧
  (∀ (v : Byte) (n : Nat), n ≤ 7 → ∃ r q, setBit v n true = .next r ∧ setBit r n false = .next q ∧
    q.getLsbD n = false ∧ ∀ k, k ≠ n → q.getLsbD k = v.getLsbD k)

/-- R9: `lo` and `hi` are the two bytes of a word, and joining them gives the word back. -/
def Obligations.HalvesOfAWordJoinBack : Prop :=
  ∀ v : Word, (lo v).toNat = v.toNat % 256 ∧ (hi v).toNat = v.toNat / 256 ∧ join (hi v) (lo v) = v

/-- R22: a pair reads as its two registers, the first the high byte, and a write to a pair is exactly the two writes to
its halves. -/
def Obligations.PairsAreTheirTwoRegisters : Prop :=
  (∀ s : State, (s.reg16 .bc).toNat = s.c.toNat + 256 * s.b.toNat ∧
    (s.reg16 .de).toNat = s.e.toNat + 256 * s.d.toNat ∧ (s.reg16 .hl).toNat = s.l.toNat + 256 * s.h.toNat) ∧
  (∀ (s : State) (v : Word), s.setReg16 .bc v = (s.setReg .b (hi v)).setReg .c (lo v) ∧
    s.setReg16 .de v = (s.setReg .d (hi v)).setReg .e (lo v) ∧
    s.setReg16 .hl v = (s.setReg .h (hi v)).setReg .l (lo v)) ∧
  (∀ (s : State) (rr : Reg16) (v : Word), (s.setReg16 rr v).reg16 rr = v)

/-- R38, R39: after construction every register, PC, SP and every counter is zero, `ime`, `halted`, `stopped` are 0 and
the core is not faulted; the Memory Unit (contents, ranges and what it remembers) and the width of the counters are those
given. The reset state is the construction on the default unit, flat RAM with nothing listed (D14), with 64-bit counters
(D5). The zeros of `ime`, `halted`, `stopped` and the latch, and of the two totals, are the spec's own decision (D15, D4);
that flat RAM starts unlisted and that its unused memory of its own is 0 are the model's (log entries 1 and 2). -/
def Obligations.ResetValuesAreTheSpecs : Prop :=
  (∀ (mem : List Host.Cell) (regions : List Region) (unit : Config.UnitState) (bits : Nat),
    let s := State.construct mem regions unit bits
    (∀ r, s.reg r = 0#8) ∧ s.f = 0#8 ∧ s.pc = 0#16 ∧ s.sp = 0#16 ∧
    s.clk.m = 0 ∧ s.clk.t = 0 ∧ s.clk.totalM = 0 ∧ s.clk.totalT = 0 ∧
    s.ime = false ∧ s.halted = false ∧ s.stopped = false ∧ s.faulted = false ∧
    s.mem = mem ∧ s.regions = regions ∧ s.unit = unit ∧ s.clockBits = bits) ∧
  State.reset = State.construct [] [] 0 64

/-- R25 (and the value part of R27): `Flags(z, n, h, c)` writes bits 7, 6, 5 and 4 of F, keeps the flag of each `-`, writes zero to the low
nibble and touches nothing but F. -/
def Obligations.FlagsWriteTheHighNibbleOfF : Prop :=
  ∀ (s : State) (z n h c : Option Bool),
    (s.setFlags z n h c).f.getLsbD 7 = z.getD (s.f.getLsbD 7) ∧
    (s.setFlags z n h c).f.getLsbD 6 = n.getD (s.f.getLsbD 6) ∧
    (s.setFlags z n h c).f.getLsbD 5 = h.getD (s.f.getLsbD 5) ∧
    (s.setFlags z n h c).f.getLsbD 4 = c.getD (s.f.getLsbD 4) ∧
    (s.setFlags z n h c).f &&& 0x0F#8 = 0#8 ∧
    s.setFlags z n h c = { s with f := (s.setFlags z n h c).f }

/-- The invariant holds at reset (R24, R31 and the canonical form of memory). -/
def Obligations.ResetMeetsTheInvariant : Prop := Inv State.reset

/-- R24: the low nibble of F is zero at reset and no step makes it anything else. -/
def Obligations.StepKeepsFlagNibbleZero : Prop :=
  FlagNibbleZero State.reset ∧ ∀ s t : State, FlagNibbleZero s → step s = .next t → FlagNibbleZero t

/-- R31: every step keeps the counters below `2^CLOCK_BITS` and the clock cycles four times the machine cycles, modulo
it, whatever `CLOCK_BITS` is. -/
def Obligations.StepKeepsClockRatio : Prop :=
  ∀ s t : State, ClockInv s → step s = .next t → ClockInv t

/-- Every step keeps memory in its canonical form (the model's representation, log entry 2). -/
def Obligations.StepKeepsMemoryCanonical : Prop :=
  ∀ s t : State, MemInv s → step s = .next t → MemInv t

/-- R230: a fault that leaves a core leaves it with its latch set, with no `Tick`, with the invariant of an unfaulted
core, and a faulted core has no step. The latch is the spec's own decision (D13); that the fault carries the core and
that the missing step is a fault of its own name are the model's choices (log entries 6 and 7). -/
def Obligations.FaultSetsTheLatchAndEndsStepping : Prop :=
  (∀ (s left : State) (x : Fault), step s = .fault x → faultLeft x = some left →
    left.faulted = true ∧ left.clk = s.clk ∧ (Inv s → Inv left)) ∧
  (∀ s : State, s.faulted = true → step s = .fault .stepWhileFaulted)

/-- R71, R72, R81: decoding the bytes of any instruction gives it back with every operand at every value, and leaves
the bytes after it. -/
def Obligations.DecodeOfEncodeIsTheInstruction : Prop :=
  ∀ (i : Instr) (rest : List Byte), i.wf = true → decode (encode i ++ rest) = .ok (i, rest)

/-- R85 (marked derived there): no byte value has two meanings: what the decoder reads, the encoder writes back byte for byte. -/
def Obligations.EncodeOfDecodeIsTheBytes : Prop :=
  ∀ (bs rest : List Byte) (i : Instr), decode bs = .ok (i, rest) → encode i ++ rest = bs

/-- Words written out from the spec's encodings, one or more per family (R82, R83). -/
def Obligations.WordsOfTheSpecDecode : Prop :=
  decode [0x41#8] = .ok (.ldBC, []) ∧ decode [0x36#8, 0x5A#8] = .ok (.ldIndHlD8 0x5A#8, []) ∧
  decode [0x31#8, 0xFE#8, 0xFF#8] = .ok (.ldSpD16 0xFFFE#16, []) ∧ decode [0xF5#8] = .ok (.pushAf, []) ∧
  decode [0x9C#8] = .ok (.sbcAH, []) ∧ decode [0x39#8] = .ok (.addHlSp, []) ∧
  decode [0xCB#8, 0x37#8] = .ok (.swapA, []) ∧ decode [0xCB#8, 0x7C#8] = .ok (.bit7H, []) ∧
  decode [0xCB#8, 0x86#8] = .ok (.res0IndHl, []) ∧ decode [0xCB#8, 0xCB#8] = .ok (.set1E, []) ∧
  decode [0xC4#8, 0x34#8, 0x12#8] = .ok (.callNzA16 0x1234#16, []) ∧ decode [0xFF#8] = .ok (.rst38, []) ∧
  decode [0x76#8] = .ok (.halt, []) ∧ decode [0x10#8, 0x55#8] = .ok (.stop 0x55#8, []) ∧
  decode [0xD3#8] = .ok (.illegalD3, [])

/-- R70: when the bytes of an instruction can be read at PC, one after the other, a step of a core that is not faulted is
the meaning of that instruction, run with PC past exactly those bytes; nothing else is added. -/
def Obligations.StepRunsDecodedInstruction : Prop :=
  ∀ (s u : State) (bs : List Byte) (i : Instr), s.faulted = false → ReadsBytes s s.pc bs u →
    decode bs = .ok (i, []) → i.wf = true →
    step s = exec i { u with pc := s.pc + BitVec.ofNat 16 bs.length }

/-- R225: the prefix row by itself fetches one further byte, advancing PC, and resolves the operation from the extended
table; it completes whenever that operation's operand can be read and written, and fails with the fetch. That the row
has a meaning apart from `step` is the model's choice (log entry 9). -/
def Obligations.PrefixResolvesTheExtendedTable : Prop :=
  ∀ s : State,
    (∀ op2, s.load s.pc = .ok op2 → decode [0xCB#8, op2] = .ok (extended op2, []) ∧
      exec .prefixCb s = exec (extended op2) { s.afterLoad s.pc with pc := s.pc + 1#16 }) ∧
    (∀ op2 v, s.load s.pc = .ok op2 → (s.afterLoad s.pc).load s.hl = .ok v →
      (∀ w, ((s.afterLoad s.pc).afterLoad s.hl).canWrite s.hl w) →
      ∃ t, exec .prefixCb s = .next t ∧ t.pc = s.pc + 1#16) ∧
    (∀ info, s.load s.pc = .error info → FailsLeaving .prefixCb s info (s.afterLoad s.pc))

/-- R226, R232: each of the eleven unresolved opcodes, fetched by a core that is not faulted, ends the step with
`UnresolvedOpcode(op, a0)`; PC is left one past it, nothing else changes, and the latch is set (D13, D16; log entries 5
and 6). -/
def Obligations.UnresolvedOpcodesAreFatal : Prop :=
  Instr.unresolved.map Prod.fst =
    [0xD3#8, 0xDB#8, 0xDD#8, 0xE3#8, 0xE4#8, 0xEB#8, 0xEC#8, 0xED#8, 0xF4#8, 0xFC#8, 0xFD#8] ∧
  (∀ op i, (op, i) ∈ Instr.unresolved → encode i = [op] ∧
    ∀ s : State, exec i s = .fault (.unresolvedOpcode op (s.pc - 1#16) { s with faulted := true })) ∧
  (∀ (s : State) (op : Byte) (i : Instr), s.faulted = false → s.load s.pc = .ok op →
    (op, i) ∈ Instr.unresolved →
    step s = .fault (.unresolvedOpcode op s.pc { s.afterLoad s.pc with pc := s.pc + 1#16, faulted := true }))

/-- R84, R234: only those eleven bytes, fetched as an opcode, are reported as unresolved, with the byte and its address. -/
def Obligations.OnlyTheElevenOpcodesAreUnresolved : Prop :=
  ∀ (s left : State) (op : Byte) (a0 : Word), step s = .fault (.unresolvedOpcode op a0 left) →
    s.load s.pc = .ok op ∧ a0 = s.pc ∧ left = { s.afterLoad s.pc with pc := s.pc + 1#16, faulted := true } ∧
    op ∈ [0xD3#8, 0xDB#8, 0xDD#8, 0xE3#8, 0xE4#8, 0xEB#8, 0xEC#8, 0xED#8, 0xF4#8, 0xFC#8, 0xFD#8]

/-- R10 (marked derived there): no instruction raises `BitIndexOutOfRange`. -/
def Obligations.NoInstructionRaisesBitIndexOutOfRange : Prop :=
  ∀ (i : Instr) (s : State) (n : Nat), exec i s ≠ .fault (.bitIndexOutOfRange n)

/-- R69, R70, R234 (the default being flat RAM is D14): on the default Memory Unit, from every state that is not faulted, every opcode but the eleven
unresolved ones completes. -/
def Obligations.EveryResolvedOpcodeCompletesOnFlatMemory : Prop :=
  ∀ (s : State) (op : Byte), s.regions = [] → s.faulted = false → s.load s.pc = .ok op →
    op ∉ [0xD3#8, 0xDB#8, 0xDD#8, 0xE3#8, 0xE4#8, 0xEB#8, 0xEC#8, 0xED#8, 0xF4#8, 0xFC#8, 0xFD#8] →
    ∃ t, step s = .next t

/-- R53, R56, R233, R235: a failing fetch ends the step with the Memory Unit's report; PC is past the bytes fetched
before it, and nothing else has happened. The first byte decides how many follow (R71). -/
def Obligations.FailingFetchEndsTheStep : Prop :=
  ∀ (s : State) (info : MemInfo), s.faulted = false →
    let s1 := s.afterLoad s.pc
    let s2 := s1.afterLoad (s.pc + 1#16)
    let s3 := s2.afterLoad (s.pc + 2#16)
    (s.load s.pc = .error info → step s = .fault (.memoryAccessFailure info { s1 with faulted := true })) ∧
    (∀ op, s.load s.pc = .ok op → 2 ≤ lengthFromFirst op → s1.load (s.pc + 1#16) = .error info →
      step s = .fault (.memoryAccessFailure info { s2 with pc := s.pc + 1#16, faulted := true })) ∧
    (∀ op v, s.load s.pc = .ok op → lengthFromFirst op = 3 → s1.load (s.pc + 1#16) = .ok v →
      s2.load (s.pc + 2#16) = .error info →
      step s = .fault (.memoryAccessFailure info { s3 with pc := s.pc + 2#16, faulted := true }))

/-- R34, R35: `halted` is written by HALT alone and only set, `stopped` by STOP alone and only set, `ime` by DI, EI and
RETI alone; no other completed instruction changes them, and none changes the latch or the two parameters. The three
bits are the spec's own decision (D8, D9, D10); that the parameters stand in the state is the model's (log entries 1
and 3). -/
def Obligations.OnlyTheNamedInstructionsWriteTheOutputs : Prop :=
  ∀ (i : Instr) (s t : State), exec i s = .next t →
    (i ≠ .halt → t.halted = s.halted) ∧ (i = .halt → t.halted = true) ∧
    ((∀ v, i ≠ .stop v) → t.stopped = s.stopped) ∧ ((∃ v, i = .stop v) → t.stopped = true) ∧
    (i ≠ .di → i ≠ .ei → i ≠ .reti → t.ime = s.ime) ∧
    t.faulted = s.faulted ∧ t.regions = s.regions ∧ t.clockBits = s.clockBits

/-- R31, R34, R35: no rule of the core reads the clock, `ime`, `halted` or `stopped`: two states that differ in these
alone step to the same outcome but for these. -/
def Obligations.ClockAndOutputsAreNeverRead : Prop :=
  ∀ s s' : State, s.withoutOutputs = s'.withoutOutputs →
    outcomeWithoutOutputs (step s) = outcomeWithoutOutputs (step s')

/-- R33: `ClockReset()` zeroes all four counters and touches nothing else. -/
def Obligations.ClockResetZeroesTheFourCounters : Prop :=
  ∀ s : State, s.clockReset.clk.m = 0 ∧ s.clockReset.clk.t = 0 ∧ s.clockReset.clk.totalM = 0 ∧
    s.clockReset.clk.totalT = 0 ∧ s.clockReset = { s with clk := s.clockReset.clk } ∧ ClockInv s.clockReset

/-- R58, R59: a push puts the high byte at SP - 1 and the low byte at SP - 2 and lowers SP by 2; a pop gives the two
bytes at SP and SP + 1, low byte first, and raises SP by 2; on RAM the pop after a push gives the value back and
restores SP. -/
def Obligations.PopAfterPushRestores : Prop :=
  (∀ (s : State) (v : Word), s.canPush v →
    ∃ t, push16 s v = .next t ∧ t = { s with sp := s.sp - 2#16, mem := t.mem, unit := t.unit } ∧ Pushed v s t) ∧
  (∀ (s : State) (l g : Byte), s.popReads l g →
    ∃ v, pop16 s = .next (v, { s.afterPop with sp := s.sp + 2#16 }) ∧ v.toNat = l.toNat + 256 * g.toNat) ∧
  (∀ (s : State) (v : Word), MemInv s → s.isRam (s.sp - 1#16) → s.isRam (s.sp - 2#16) →
    ∃ t, push16 s v = .next t ∧ pop16 t = .next (v, { t with sp := s.sp }))

/-- R51, R52, R53, R69: what an access answers and leaves behind is the Memory Unit's matter alone. A read or write that it
answers by itself gives exactly what its own functions say (any byte, any side effect, any failure: `Config.unitRead` and
`Config.unitWrite` are constrained by nothing); any other read changes nothing, and any write that is taken changes the
one byte only. On the default Memory Unit, flat RAM (D14), a write never fails and is read back, and a read never fails.
The form of the Memory Unit is the model's choice (log entries 1 and 20), and so is what an unwritten byte reads as (log
entry 2). -/
def Obligations.MemoryUnitAnswersEveryAccess : Prop :=
  (∀ (s : State) (x : Word), readPolicyAt s.regions x = .unit →
    memRead s x = match Config.unitRead s.unit x with
      | (.ok v, u) => .next (v, { s with unit := u })
      | (.error info, u) => .fault (.memoryAccessFailure info { s with unit := u, faulted := true })) ∧
  (∀ (s : State) (x : Word) (v : Byte), writePolicyAt s.regions x = .unit →
    memWrite s x v = match Config.unitWrite s.unit x v with
      | (none, u) => .next { s with unit := u }
      | (some info, u) => .fault (.memoryAccessFailure info { s with unit := u, faulted := true })) ∧
  (∀ (s : State) (x : Word), readPolicyAt s.regions x ≠ .unit → s.afterLoad x = s) ∧
  (∀ (s : State) (x : Word) (v : Byte), s.load x = .ok v → memRead s x = .next (v, s.afterLoad x)) ∧
  (∀ (s : State) (x : Word) (info : MemInfo), s.load x = .error info →
    memRead s x = .fault (.memoryAccessFailure info { s.afterLoad x with faulted := true })) ∧
  (∀ (s : State) (x : Word) (v : Byte), s.canWrite x v →
    memWrite s x v = .next (s.afterStore x v) ∧ Stores x v s (s.afterStore x v) ∧
    s.afterStore x v = { s with mem := (s.afterStore x v).mem, unit := (s.afterStore x v).unit }) ∧
  (∀ (s : State) (x : Word) (v : Byte) (info : MemInfo), s.storeFailure x v = some info →
    memWrite s x v = .fault (.memoryAccessFailure info { s.afterStore x v with faulted := true }) ∧
    (writePolicyAt s.regions x ≠ .unit → s.afterStore x v = s)) ∧
  (∀ (s : State) (x : Word) (v : Byte), s.regions = [] → MemInv s →
    ∃ t, memWrite s x v = .next t ∧ t = { s with mem := t.mem } ∧ MemInv t ∧ memRead t x = .next (v, t) ∧
      ∀ y, y ≠ x → ∃ w, memRead s y = .next (w, s) ∧ memRead t y = .next (w, t))

/-- R237 (informative) and R246: the shell's interrupt procedure between two steps, the model's choice of a host move
(log entry 14): IE is read, then IF; nothing pending, nothing done; something pending ends `halted`; with `ime` set the
lowest pending source is taken: its flag cleared, `ime` cleared, PC pushed, PC at its vector. A failing access of the
shell's own ends the move in the core's fault (log entry 23). -/
def Obligations.InterruptServiceTakesTheLowestPending : Prop :=
  ∀ s : State,
    let s1 := s.afterLoad 0xFFFF#16
    let r := s1.afterLoad 0xFF0F#16
    (∀ info, s.load 0xFFFF#16 = .error info →
      serviceInterrupt s = .fault (.memoryAccessFailure info { s1 with faulted := true })) ∧
    (∀ e info, s.load 0xFFFF#16 = .ok e → s1.load 0xFF0F#16 = .error info →
      serviceInterrupt s = .fault (.memoryAccessFailure info { r with faulted := true })) ∧
    (∀ e f, s.load 0xFFFF#16 = .ok e → s1.load 0xFF0F#16 = .ok f →
      (e &&& f &&& 0x1F#8 = 0#8 → serviceInterrupt s = .next r) ∧
      (e &&& f &&& 0x1F#8 ≠ 0#8 → s.ime = false → serviceInterrupt s = .next { r with halted := false }) ∧
      (∀ (i : Fin 5) (g : Byte), (e &&& f).getLsbD i.val = true → (∀ j, j < i.val → (e &&& f).getLsbD j = false) →
        s.ime = true → g.getLsbD i.val = false → (∀ k, k ≠ i.val → g.getLsbD k = f.getLsbD k) →
        r.canWrite 0xFF0F#16 g → (r.afterStore 0xFF0F#16 g).canPush s.pc →
        ∃ t, serviceInterrupt s = .next t ∧ t.pc.toNat = 0x40 + 8 * i.val ∧
          t = { s with pc := t.pc, sp := t.sp, ime := false, halted := false, mem := t.mem, unit := t.unit } ∧
          Stores 0xFF0F#16 g r (r.afterStore 0xFF0F#16 g) ∧ Pushed s.pc (r.afterStore 0xFF0F#16 g) t))

/-! 8-bit loads -/

/-- R101. -/
def Obligations.LoadRegisterFromRegister : Prop :=
  ∀ (dst src : Reg8) (s : State),
    encode (.ldRegReg dst src) = [opcode (0x40 + 8 * regCode dst + regCode src)] ∧
    ∃ t, exec (.ldRegReg dst src) s = .next t ∧ t.reg dst = s.reg src ∧ SameRegsBut [dst] s t ∧ Keeps [] s t ∧
      Costs 1 s t

/-- R102. -/
def Obligations.LoadRegisterImmediate : Prop :=
  ∀ (dst : Reg8) (v : Byte) (s : State),
    encode (.ldRegImm dst v) = [opcode (0x06 + 8 * regCode dst), v] ∧
    ∃ t, exec (.ldRegImm dst v) s = .next t ∧ t.reg dst = v ∧ SameRegsBut [dst] s t ∧ Keeps [] s t ∧ Costs 2 s t

/-- R103. -/
def Obligations.LoadRegisterFromAddressHl : Prop :=
  ∀ (dst : Reg8) (s : State),
    encode (.ldRegIndHl dst) = [opcode (0x46 + 8 * regCode dst)] ∧
    (∀ v, s.load s.hl = .ok v → ∃ t, exec (.ldRegIndHl dst) s = .next t ∧ t.reg dst = v ∧
      SameRegsBut [dst] s t ∧ Keeps [] (s.afterLoad s.hl) t ∧ Costs 2 s t) ∧
    OperandReadFails (.ldRegIndHl dst) s

/-- R104, R105: the stores to the byte at HL, of a register or an immediate. -/
def Obligations.StoreToAddressHl : Prop :=
  ∀ (src : Reg8) (n : Byte) (s : State),
    encode (.ldIndHlReg src) = [opcode (0x70 + regCode src)] ∧ encode (.ldIndHlD8 n) = [0x36#8, n] ∧
    ∀ i v cost, (i, v, cost) ∈ [(Instr.ldIndHlReg src, s.reg src, 2), (.ldIndHlD8 n, n, 3)] →
      (s.canWrite s.hl v → ∃ t, exec i s = .next t ∧ Stores s.hl v s t ∧ SameRegsBut [] s t ∧
        Keeps [.memory] s t ∧ Costs cost s t) ∧
      (∀ info, s.storeFailure s.hl v = some info → FailsLeaving i s info (s.afterStore s.hl v))

/-- R106, R107, R110, R112, R114: A from (BC), (DE), (a16), 0xFF00 + C and 0xFF00 + a8. -/
def Obligations.LoadAFromMemory : Prop :=
  ∀ (x : Word) (n : Byte) (s : State), (highPage n).toNat = 0xFF00 + n.toNat ∧
    encode .ldAIndBc = [0x0A#8] ∧ encode .ldAIndDe = [0x1A#8] ∧ encode (.ldAIndA16 x) = [0xFA#8, lo x, hi x] ∧
    encode .ldhAIndC = [0xF2#8] ∧ encode (.ldhAIndA8 n) = [0xF0#8, n] ∧
    ∀ i at_ cost, (i, at_, cost) ∈ [(Instr.ldAIndBc, s.bc, 2), (.ldAIndDe, s.de, 2), (.ldAIndA16 x, x, 4),
        (.ldhAIndC, highPage s.c, 2), (.ldhAIndA8 n, highPage n, 3)] →
      (∀ v, s.load at_ = .ok v → ∃ t, exec i s = .next t ∧ t.a = v ∧ SameRegsBut [.a] s t ∧
        Keeps [] (s.afterLoad at_) t ∧ Costs cost s t) ∧
      (∀ info, s.load at_ = .error info → FailsLeaving i s info (s.afterLoad at_))

/-- R108, R109, R111, R113, R115: A to (BC), (DE), (a16), 0xFF00 + C and 0xFF00 + a8. -/
def Obligations.StoreAToMemory : Prop :=
  ∀ (x : Word) (n : Byte) (s : State), (highPage n).toNat = 0xFF00 + n.toNat ∧
    encode .ldIndBcA = [0x02#8] ∧ encode .ldIndDeA = [0x12#8] ∧ encode (.ldIndA16A x) = [0xEA#8, lo x, hi x] ∧
    encode .ldhIndCA = [0xE2#8] ∧ encode (.ldhIndA8A n) = [0xE0#8, n] ∧
    ∀ i at_ cost, (i, at_, cost) ∈ [(Instr.ldIndBcA, s.bc, 2), (.ldIndDeA, s.de, 2), (.ldIndA16A x, x, 4),
        (.ldhIndCA, highPage s.c, 2), (.ldhIndA8A n, highPage n, 3)] →
      (s.canWrite at_ s.a → ∃ t, exec i s = .next t ∧ Stores at_ s.a s t ∧ SameRegsBut [] s t ∧
        Keeps [.memory] s t ∧ Costs cost s t) ∧
      (∀ info, s.storeFailure at_ s.a = some info → FailsLeaving i s info (s.afterStore at_ s.a))

/-- R116, R118: A from the byte at the old HL, then HL one lower or higher, modulo 2^16; no flag. -/
def Obligations.LoadAStepHl : Prop :=
  ∀ s : State, encode .ldAIndHlDec = [0x3A#8] ∧ encode .ldAIndHlInc = [0x2A#8] ∧
    ∀ i next, (i, next) ∈ [(Instr.ldAIndHlDec, s.hl - 1#16), (.ldAIndHlInc, s.hl + 1#16)] →
      (∀ v, s.load s.hl = .ok v → ∃ t, exec i s = .next t ∧ t.a = v ∧ t.hl = next ∧
        SameRegsBut [.a, .h, .l] s t ∧ Keeps [] (s.afterLoad s.hl) t ∧ Costs 2 s t) ∧
      OperandReadFails i s

/-- R117, R119: A to the byte at the old HL, then HL one lower or higher, modulo 2^16; no flag. -/
def Obligations.StoreAStepHl : Prop :=
  ∀ s : State, encode .ldIndHlDecA = [0x32#8] ∧ encode .ldIndHlIncA = [0x22#8] ∧
    ∀ i next, (i, next) ∈ [(Instr.ldIndHlDecA, s.hl - 1#16), (.ldIndHlIncA, s.hl + 1#16)] →
      (s.canWrite s.hl s.a → ∃ t, exec i s = .next t ∧ Stores s.hl s.a s t ∧ t.hl = next ∧
        SameRegsBut [.h, .l] s t ∧ Keeps [.memory] s t ∧ Costs 2 s t) ∧
      (∀ info, s.storeFailure s.hl s.a = some info → FailsLeaving i s info (s.afterStore s.hl s.a))

/-! 16-bit loads and the stack -/

/-- R131, R133: a 16-bit immediate into BC, DE, HL or SP, and HL into SP. -/
def Obligations.LoadSixteenBitRegister : Prop :=
  ∀ (rr : Reg16) (v : Word) (s : State),
    encode (.ldReg16Imm rr v) = [opcode (0x01 + 16 * reg16Code rr), lo v, hi v] ∧ encode .ldSpHl = [0xF9#8] ∧
    (∃ t, exec (.ldReg16Imm rr v) s = .next t ∧ t.reg16 rr = v ∧ (∀ q, q ≠ rr → t.reg16 q = s.reg16 q) ∧
      t.a = s.a ∧ Keeps [.sp] s t ∧ Costs 3 s t) ∧
    (∃ t, exec .ldSpHl s = .next t ∧ t.sp = s.hl ∧ SameRegsBut [] s t ∧ Keeps [.sp] s t ∧ Costs 2 s t)

/-- R132: SP to memory, the low byte at the address and the high byte at the next one modulo 2^16; the low byte is
written first (D7), so that a failing second write leaves it behind. -/
def Obligations.StoreStackPointer : Prop :=
  ∀ (x : Word) (s : State), encode (.ldIndA16Sp x) = [0x08#8, lo x, hi x] ∧
    let s1 := s.afterStore x (lo s.sp)
    (s.canWrite x (lo s.sp) → s1.canWrite (x + 1#16) (hi s.sp) → ∃ t, exec (.ldIndA16Sp x) s = .next t ∧
      StoresTwo x (lo s.sp) (x + 1#16) (hi s.sp) s t ∧ SameRegsBut [] s t ∧ Keeps [.memory] s t ∧ Costs 5 s t) ∧
    (∀ info, s.storeFailure x (lo s.sp) = some info → FailsLeaving (.ldIndA16Sp x) s info s1) ∧
    (∀ info, s.canWrite x (lo s.sp) → s1.storeFailure (x + 1#16) (hi s.sp) = some info →
      Stores x (lo s.sp) s s1 ∧
      FailsLeaving (.ldIndA16Sp x) s info (s1.afterStore (x + 1#16) (hi s.sp)))

/-- R23, R134: a pair pushed, AF being A and F; the high register at SP - 1, then the low one at SP - 2. A failing write
leaves SP moved and the bytes written before it. -/
def Obligations.PushPair : Prop :=
  ∀ (p : StackPair) (s : State),
    encode (.push p) = [opcode (0xC5 + 16 * stackPairCode p)] ∧
    s.stackPair .bc = join s.b s.c ∧ s.stackPair .de = join s.d s.e ∧ s.stackPair .hl = join s.h s.l ∧
    s.stackPair .af = join s.a s.f ∧
    (s.canPush (s.stackPair p) → ∃ t, exec (.push p) s = .next t ∧ Pushed (s.stackPair p) s t ∧
      SameRegsBut [] s t ∧ Keeps [.memory, .sp] s t ∧ Costs 4 s t) ∧
    PushFails (.push p) (s.stackPair p) s

/-- R135, R136: the low register (F with its low nibble cleared) from the byte at SP, the high register from the byte
at SP + 1; SP ends two higher. -/
def Obligations.PopPair : Prop :=
  ∀ (p : StackPair) (s : State),
    encode (.pop p) = [opcode (0xC1 + 16 * stackPairCode p)] ∧
    (∀ l g, s.popReads l g →
      ∃ t, exec (.pop p) s = .next t ∧ t.sp = s.sp + 2#16 ∧ Keeps [.sp, .flags] s.afterPop t ∧ Costs 3 s t ∧
        (p = .bc → t.b = g ∧ t.c = l ∧ SameRegsBut [.b, .c] s t ∧ t.f = s.f) ∧
        (p = .de → t.d = g ∧ t.e = l ∧ SameRegsBut [.d, .e] s t ∧ t.f = s.f) ∧
        (p = .hl → t.h = g ∧ t.l = l ∧ SameRegsBut [.h, .l] s t ∧ t.f = s.f) ∧
        (p = .af → t.a = g ∧ t.f = l &&& 0xF0#8 ∧ SameRegsBut [.a] s t)) ∧
    PopFails (.pop p) s

/-- R137, R174: SP plus a signed displacement, into HL or into SP; Z and N cleared, H and C the carries of the unsigned
addition of SP's low byte and the raw byte (D11). -/
def Obligations.AddDisplacementToSp : Prop :=
  ∀ (e : Byte) (s : State), encode (.ldHlSpE8 e) = [0xF8#8, e] ∧ encode (.addSpE8 e) = [0xE8#8, e] ∧
    ∃ t u, exec (.ldHlSpE8 e) s = .next t ∧ exec (.addSpE8 e) s = .next u ∧
      t.hl = BitVec.ofInt 16 ((s.sp.toNat : Int) + e.toInt) ∧ SameRegsBut [.h, .l] s t ∧ Keeps [.flags] s t ∧
      Costs 3 s t ∧
      u.sp = BitVec.ofInt 16 ((s.sp.toNat : Int) + e.toInt) ∧ SameRegsBut [] s u ∧ Keeps [.flags, .sp] s u ∧
      Costs 4 s u ∧
      ∀ w ∈ [t, u], FlagsAre w false false (decide (15 < s.sp.toNat % 16 + e.toNat % 16))
        (decide (255 < s.sp.toNat % 256 + e.toNat))

/-! 8-bit arithmetic and logic -/

/-- R141: the encodings of the three forms of each operation. -/
def Obligations.AluFormsEncodeByFormula : Prop :=
  ∀ (op : AluOp) (x : Operand8) (v : Byte),
    encode (.alu op x) = [opcode (0x80 + 8 * aluCode op + operandCode x)] ∧
    encode (.aluImm op v) = [opcode (0xC6 + 8 * aluCode op), v] ∧
    decode [opcode (0x80 + 8 * aluCode op + operandCode x)] = .ok (.alu op x, []) ∧
    decode [opcode (0xC6 + 8 * aluCode op), v] = .ok (.aluImm op v, [])

/-- R142, R143: ADD and ADC in their three forms. -/
def Obligations.AddAndAddWithCarry : Prop :=
  ∀ (op : AluOp) (k : Nat) (s : State), (op, k) ∈ [(.add, 0), (.adc, s.flagC.toNat)] →
    OperandReadFails (.alu op .indHl) s ∧
    ∀ i v n u, AluForm op i v n s u → ∃ t, exec i s = .next t ∧
      t.a.toNat = (s.a.toNat + v.toNat + k) % 256 ∧
      FlagsAre t (decide ((s.a.toNat + v.toNat + k) % 256 = 0)) false
        (decide (15 < s.a.toNat % 16 + v.toNat % 16 + k)) (decide (255 < s.a.toNat + v.toNat + k)) ∧
      SameRegsBut [.a] s t ∧ Keeps [.flags] u t ∧ Costs n s t

/-- R144, R145: SUB and SBC in their three forms; H and C are borrows. -/
def Obligations.SubtractAndSubtractWithBorrow : Prop :=
  ∀ (op : AluOp) (k : Nat) (s : State), (op, k) ∈ [(.sub, 0), (.sbc, s.flagC.toNat)] →
    OperandReadFails (.alu op .indHl) s ∧
    ∀ i v n u, AluForm op i v n s u → ∃ t, exec i s = .next t ∧
      t.a.toNat = (s.a.toNat + 512 - (v.toNat + k)) % 256 ∧
      FlagsAre t (decide ((s.a.toNat + 512 - (v.toNat + k)) % 256 = 0)) true
        (decide (s.a.toNat % 16 < v.toNat % 16 + k)) (decide (s.a.toNat < v.toNat + k)) ∧
      SameRegsBut [.a] s t ∧ Keeps [.flags] u t ∧ Costs n s t

/-- R149: CP in its three forms writes the flags of SUB and leaves A. -/
def Obligations.CompareLeavesA : Prop :=
  ∀ s : State, OperandReadFails (.alu .cp .indHl) s ∧
    ∀ i v n u, AluForm .cp i v n s u → ∃ t, exec i s = .next t ∧
      FlagsAre t (decide (s.a = v)) true (decide (s.a.toNat % 16 < v.toNat % 16)) (decide (s.a.toNat < v.toNat)) ∧
      SameRegsBut [] s t ∧ Keeps [.flags] u t ∧ Costs n s t

/-- R146, R147, R148: AND, XOR and OR in their three forms; AND sets H, all clear N and C. -/
def Obligations.BitwiseOperations : Prop :=
  ∀ (op : AluOp) (s : State), op ∈ [.and, .xor, .or] →
    OperandReadFails (.alu op .indHl) s ∧
    ∀ i v n u, AluForm op i v n s u → ∃ t, exec i s = .next t ∧
      (∀ k, k < 8 → t.a.getLsbD k = (match op with
        | .and => s.a.getLsbD k && v.getLsbD k
        | .xor => s.a.getLsbD k != v.getLsbD k
        | _ => s.a.getLsbD k || v.getLsbD k)) ∧
      FlagsAre t (decide (t.a = 0#8)) false (decide (op = .and)) false ∧
      SameRegsBut [.a] s t ∧ Keeps [.flags] u t ∧ Costs n s t

/-- R150, R151: INC of a register or of the byte at HL; C unaffected. -/
def Obligations.IncrementByte : Prop :=
  ∀ (x : Operand8) (s : State), encode (.inc8 x) = [opcode (0x04 + 8 * operandCode x)] ∧
    OperandReadFails (.inc8 .indHl) s ∧
    ∀ o, OperandHolds x o s → OperandWriteFails (.inc8 x) x (o + 1#8) s ∧
      (OperandWritable x (o + 1#8) (s.afterOperand x) → ∃ t, exec (.inc8 x) s = .next t ∧
      OperandWritten x (o + 1#8) (s.afterOperand x) t ∧
      FlagsAre t (decide (o.toNat = 255)) false (decide (o.toNat % 16 = 15)) s.flagC ∧
      Keeps [.flags, .memory] s t ∧ Costs (operandForms x 1 3) s t)

/-- R152, R153: DEC of a register or of the byte at HL; C unaffected. -/
def Obligations.DecrementByte : Prop :=
  ∀ (x : Operand8) (s : State), encode (.dec8 x) = [opcode (0x05 + 8 * operandCode x)] ∧
    OperandReadFails (.dec8 .indHl) s ∧
    ∀ o, OperandHolds x o s → OperandWriteFails (.dec8 x) x (o - 1#8) s ∧
      (OperandWritable x (o - 1#8) (s.afterOperand x) → ∃ t, exec (.dec8 x) s = .next t ∧
      OperandWritten x (o - 1#8) (s.afterOperand x) t ∧
      FlagsAre t (decide (o.toNat = 1)) true (decide (o.toNat % 16 = 0)) s.flagC ∧
      Keeps [.flags, .memory] s t ∧ Costs (operandForms x 1 3) s t)

/-- R154: DAA; both tests of the addition arm look at the original A, C is never cleared when it was set. -/
def Obligations.DecimalAdjustAccumulator : Prop :=
  ∀ s : State, encode .daa = [0x27#8] ∧ ∃ t, exec .daa s = .next t ∧
    (s.flagN = false →
      let six := if s.flagH = true ∨ 9 < s.a.toNat % 16 then 6 else 0
      let carry := s.flagC || decide (0x99 < s.a.toNat)
      t.a.toNat = (s.a.toNat + six + (if carry then 0x60 else 0)) % 256 ∧
      FlagsAre t (decide (t.a = 0#8)) false false carry) ∧
    (s.flagN = true →
      t.a.toNat = (s.a.toNat + 256 - (if s.flagH then 6 else 0) - (if s.flagC then 0x60 else 0)) % 256 ∧
      FlagsAre t (decide (t.a = 0#8)) true false s.flagC) ∧
    SameRegsBut [.a] s t ∧ Keeps [.flags] s t ∧ Costs 1 s t

/-- R155, R156, R157: CPL, SCF and CCF. -/
def Obligations.ComplementAndCarryFlag : Prop :=
  ∀ s : State, encode .cpl = [0x2F#8] ∧ encode .scf = [0x37#8] ∧ encode .ccf = [0x3F#8] ∧
    (∃ t, exec .cpl s = .next t ∧ t.a.toNat = 255 - s.a.toNat ∧ FlagsAre t s.flagZ true true s.flagC ∧
      SameRegsBut [.a] s t ∧ Keeps [.flags] s t ∧ Costs 1 s t) ∧
    (∃ t, exec .scf s = .next t ∧ FlagsAre t s.flagZ false false true ∧ SameRegsBut [] s t ∧ Keeps [.flags] s t ∧
      Costs 1 s t) ∧
    (∃ t, exec .ccf s = .next t ∧ FlagsAre t s.flagZ false false (!s.flagC) ∧ SameRegsBut [] s t ∧
      Keeps [.flags] s t ∧ Costs 1 s t)

/-! 16-bit arithmetic -/

/-- R171: ADD HL,rr; H from bit 11, C from bit 15, Z unaffected. -/
def Obligations.AddToHl : Prop :=
  ∀ (rr : Reg16) (s : State), encode (.addHl rr) = [opcode (0x09 + 16 * reg16Code rr)] ∧
    ∃ t, exec (.addHl rr) s = .next t ∧
      t.hl.toNat = (s.hl.toNat + (s.reg16 rr).toNat) % 65536 ∧
      FlagsAre t s.flagZ false (decide (4095 < s.hl.toNat % 4096 + (s.reg16 rr).toNat % 4096))
        (decide (65535 < s.hl.toNat + (s.reg16 rr).toNat)) ∧
      SameRegsBut [.h, .l] s t ∧ Keeps [.flags] s t ∧ Costs 2 s t

/-- R172, R173: INC rr and DEC rr, modulo 2^16; no flag. -/
def Obligations.StepSixteenBitRegister : Prop :=
  ∀ (rr : Reg16) (s : State), encode (.incReg16 rr) = [opcode (0x03 + 16 * reg16Code rr)] ∧
    encode (.decReg16 rr) = [opcode (0x0B + 16 * reg16Code rr)] ∧
    ∀ i v, (i, v) ∈ [(Instr.incReg16 rr, ((s.reg16 rr).toNat + 1) % 65536),
        (.decReg16 rr, ((s.reg16 rr).toNat + 65535) % 65536)] →
      ∃ t, exec i s = .next t ∧ (t.reg16 rr).toNat = v ∧ (∀ q, q ≠ rr → t.reg16 q = s.reg16 q) ∧ t.a = s.a ∧
        Keeps [.sp] s t ∧ Costs 2 s t

/-! Rotates, shifts and bits -/

/-- R181 to R184: the accumulator rotates; Z is cleared whatever the result (D12). -/
def Obligations.AccumulatorRotates : Prop :=
  encode .rlca = [0x07#8] ∧ encode .rrca = [0x0F#8] ∧ encode .rla = [0x17#8] ∧ encode .rra = [0x1F#8] ∧
  ∀ (i : Instr) (op : RotOp) (s : State), (i, op) ∈ [(.rlca, .rlc), (.rrca, .rrc), (.rla, .rl), (.rra, .rr)] →
    ∃ t, exec i s = .next t ∧ t.a.toNat = rotatedNat op s.a.toNat s.flagC.toNat ∧
      FlagsAre t false false false (rotatedCarry op s.a.toNat) ∧ SameRegsBut [.a] s t ∧ Keeps [.flags] s t ∧
      Costs 1 s t

/-- R185 to R192: the extended rotates and shifts of a register or of the byte at HL. -/
def Obligations.ExtendedRotatesAndShifts : Prop :=
  ∀ (op : RotOp) (x : Operand8) (s : State),
    encode (.rot op x) = [0xCB#8, opcode (8 * rotCode op + operandCode x)] ∧
    OperandReadFails (.rot op .indHl) s ∧
    ∀ v, OperandHolds x v s → ∃ r : Byte, r.toNat = rotatedNat op v.toNat s.flagC.toNat ∧
      OperandWriteFails (.rot op x) x r s ∧
      (OperandWritable x r (s.afterOperand x) → ∃ t, exec (.rot op x) s = .next t ∧
        OperandWritten x r (s.afterOperand x) t ∧
        FlagsAre t (decide (r = 0#8)) false false (rotatedCarry op v.toNat) ∧
        Keeps [.flags, .memory] s t ∧ Costs (operandForms x 2 4) s t)

/-- R193: BIT; Z is the complement of the tested bit, C unaffected, the operand not written. -/
def Obligations.TestBitOfOperand : Prop :=
  ∀ (b : Fin 8) (x : Operand8) (s : State),
    encode (.bit b x) = [0xCB#8, opcode (0x40 + 8 * b.val + operandCode x)] ∧
    OperandReadFails (.bit b .indHl) s ∧
    ∀ v, OperandHolds x v s → ∃ t, exec (.bit b x) s = .next t ∧
      FlagsAre t (decide (v.toNat / 2 ^ b.val % 2 = 0)) false true s.flagC ∧ SameRegsBut [] s t ∧
      Keeps [.flags] (s.afterOperand x) t ∧ Costs (operandForms x 2 3) s t

/-- R194, R195: RES and SET force one bit of the operand and touch no flag. -/
def Obligations.ResetAndSetBitOfOperand : Prop :=
  ∀ (b : Fin 8) (x : Operand8) (s : State),
    encode (.res b x) = [0xCB#8, opcode (0x80 + 8 * b.val + operandCode x)] ∧
    encode (.set b x) = [0xCB#8, opcode (0xC0 + 8 * b.val + operandCode x)] ∧
    OperandReadFails (.res b .indHl) s ∧ OperandReadFails (.set b .indHl) s ∧
    ∀ v, OperandHolds x v s → ∀ i forced, (i, forced) ∈ [(Instr.res b x, false), (.set b x, true)] →
      ∃ r : Byte, r.getLsbD b.val = forced ∧ (∀ k, k ≠ b.val → r.getLsbD k = v.getLsbD k) ∧
        OperandWriteFails i x r s ∧
        (OperandWritable x r (s.afterOperand x) → ∃ t, exec i s = .next t ∧
          OperandWritten x r (s.afterOperand x) t ∧ Keeps [.memory] s t ∧ Costs (operandForms x 2 4) s t)

/-! Control transfer -/

/-- R201, R203, R204: JP a16, JP HL and JR e8; the base of the displacement is the address after the instruction. -/
def Obligations.UnconditionalJumps : Prop :=
  ∀ (x : Word) (e : Byte) (s : State), encode (.jpA16 x) = [0xC3#8, lo x, hi x] ∧ encode .jpHl = [0xE9#8] ∧
    encode (.jrE8 e) = [0x18#8, e] ∧
    ∀ i target cost, (i, target, cost) ∈ [(Instr.jpA16 x, x, 4), (.jpHl, s.hl, 1),
        (.jrE8 e, BitVec.ofInt 16 ((s.pc.toNat : Int) + e.toInt), 3)] →
      ∃ t, exec i s = .next t ∧ t.pc = target ∧ SameRegsBut [] s t ∧ Keeps [.pc] s t ∧ Costs cost s t

/-- R200, R202, R205: the condition test, JP cc and JR cc, taken and not taken. -/
def Obligations.ConditionalJumps : Prop :=
  ∀ (cc : Cond) (x : Word) (e : Byte) (s : State),
    s.cond .nz = !s.flagZ ∧ s.cond .z = s.flagZ ∧ s.cond .nc = !s.flagC ∧ s.cond .c = s.flagC ∧
    encode (.jpCond cc x) = [opcode (0xC2 + 8 * condCode cc), lo x, hi x] ∧
    encode (.jrCond cc e) = [opcode (0x20 + 8 * condCode cc), e] ∧
    ∀ i target taken notTaken, (i, target, taken, notTaken) ∈ [(Instr.jpCond cc x, x, 4, 3),
        (.jrCond cc e, BitVec.ofInt 16 ((s.pc.toNat : Int) + e.toInt), 3, 2)] →
      ∃ t, exec i s = .next t ∧ t.pc = (if s.cond cc then target else s.pc) ∧ SameRegsBut [] s t ∧
        Keeps [.pc] s t ∧ Costs (if s.cond cc then taken else notTaken) s t

/-- R206, R207, R211: CALL, CALL cc taken, and RST push the address after the instruction, high byte first, and go to
the target; CALL cc not taken touches neither SP nor memory. -/
def Obligations.CallsAndRestarts : Prop :=
  ∀ (cc : Cond) (y : Fin 8) (x : Word) (s : State), encode (.callA16 x) = [0xCD#8, lo x, hi x] ∧
    encode (.callCond cc x) = [opcode (0xC4 + 8 * condCode cc), lo x, hi x] ∧
    encode (.rst y) = [opcode (0xC7 + 8 * y.val)] ∧
    (s.cond cc = false → ∃ t, exec (.callCond cc x) s = .next t ∧ SameRegsBut [] s t ∧ Keeps [] s t ∧
      Costs 3 s t) ∧
    ∀ i target cost, (i, target, cost) ∈ [(Instr.callA16 x, x, 6), (.callCond cc x, x, 6),
        (.rst y, BitVec.ofNat 16 (8 * y.val), 4)] → (i = .callCond cc x → s.cond cc = true) →
      (s.canPush s.pc → ∃ t, exec i s = .next t ∧ t.pc = target ∧ Pushed s.pc s t ∧ SameRegsBut [] s t ∧
        Keeps [.pc, .sp, .memory] s t ∧ Costs cost s t) ∧
      PushFails i s.pc s

/-- R208, R209, R210: RET, RET cc taken, and RETI take PC from the stack, low byte first; RETI sets `ime`, which a
failing read leaves as it was (D8); RET cc not taken makes no stack access. -/
def Obligations.Returns : Prop :=
  ∀ (cc : Cond) (s : State), encode .ret = [0xC9#8] ∧ encode .reti = [0xD9#8] ∧
    encode (.retCond cc) = [opcode (0xC0 + 8 * condCode cc)] ∧
    (s.cond cc = false → ∃ t, exec (.retCond cc) s = .next t ∧ SameRegsBut [] s t ∧ Keeps [] s t ∧ Costs 2 s t) ∧
    ∀ i enabled cost, (i, enabled, cost) ∈ [(Instr.ret, s.ime, 4), (.reti, true, 4), (.retCond cc, s.ime, 5)] →
      (i = .retCond cc → s.cond cc = true) →
      (∀ l g, s.popReads l g → ∃ t, exec i s = .next t ∧
        t.pc.toNat = l.toNat + 256 * g.toNat ∧ t.sp = s.sp + 2#16 ∧ t.ime = enabled ∧ SameRegsBut [] s t ∧
        Keeps [.pc, .sp, .ime] s.afterPop t ∧ Costs cost s t) ∧
      PopFails i s

/-! System -/

/-- R220: NOP advances PC by exactly one and costs one machine cycle, and nothing else changes. -/
def Obligations.NopOnlyAdvancesPc : Prop :=
  (∀ s : State, ∃ t, exec .nop s = .next t ∧ t = { s with clk := t.clk } ∧ Costs 1 s t) ∧
  (∀ s : State, s.faulted = false → s.load s.pc = .ok 0x00#8 →
    ∃ t, step s = .next t ∧ t = { s.afterLoad s.pc with pc := s.pc + 1#16, clk := t.clk } ∧ Costs 1 s t)

/-- R221 to R224: HALT, STOP (whatever its second byte), DI and EI write their bit at once and nothing else (D8, D9,
D10). -/
def Obligations.HaltStopDiEi : Prop :=
  ∀ (v : Byte) (s : State), encode .halt = [0x76#8] ∧ encode (.stop v) = [0x10#8, v] ∧ encode .di = [0xF3#8] ∧
    encode .ei = [0xFB#8] ∧
    (∃ t, exec .halt s = .next t ∧ t = { s with halted := true, clk := t.clk } ∧ Costs 1 s t) ∧
    (∃ t, exec (.stop v) s = .next t ∧ t = { s with stopped := true, clk := t.clk } ∧ Costs 1 s t) ∧
    (∃ t, exec .di s = .next t ∧ t = { s with ime := false, clk := t.clk } ∧ Costs 1 s t) ∧
    (∃ t, exec .ei s = .next t ∧ t = { s with ime := true, clk := t.clk } ∧ Costs 1 s t)
end

