-- ==== Sys2Proof/Laws/Bits.lean ====
section
/-! SUPPORT. The bit helpers: halves of a word (spec/00_scope.md R9) and the byte of flags (spec/10_state.md R25). -/

namespace Sys2Proof.Machine

theorem lo_toNat (v : Word) : (lo v).toNat = v.toNat % 256 := by simp [lo]

theorem hi_toNat (v : Word) : (hi v).toNat = v.toNat / 256 := by
  have := v.isLt
  simp [hi, Nat.shiftRight_eq_div_pow]
  omega

theorem join_toNat (h l : Byte) : (join h l).toNat = h.toNat * 256 + l.toNat := by
  unfold join
  rw [BitVec.toNat_append, ← Nat.shiftLeft_add_eq_or_of_lt l.isLt, Nat.shiftLeft_eq]

@[simp] theorem join_hi_lo (v : Word) : join (hi v) (lo v) = v := by
  apply BitVec.eq_of_toNat_eq
  rw [join_toNat, hi_toNat, lo_toNat]
  omega

@[simp] theorem lo_join (h l : Byte) : lo (join h l) = l := by
  apply BitVec.eq_of_toNat_eq
  have := l.isLt
  rw [lo_toNat, join_toNat]
  omega

@[simp] theorem hi_join (h l : Byte) : hi (join h l) = h := by
  apply BitVec.eq_of_toNat_eq
  have := l.isLt
  rw [hi_toNat, join_toNat]
  omega

theorem lowNibble_toNat (v : Byte) : lowNibble v = v.toNat % 16 := by
  simp only [lowNibble, BitVec.toNat_and]
  exact Nat.and_two_pow_sub_one_eq_mod v.toNat 4

@[simp] theorem flagByte_z (z n h c : Bool) : (flagByte z n h c).getLsbD 7 = z := by
  cases z <;> cases n <;> cases h <;> cases c <;> decide

@[simp] theorem flagByte_n (z n h c : Bool) : (flagByte z n h c).getLsbD 6 = n := by
  cases z <;> cases n <;> cases h <;> cases c <;> decide

@[simp] theorem flagByte_h (z n h c : Bool) : (flagByte z n h c).getLsbD 5 = h := by
  cases z <;> cases n <;> cases h <;> cases c <;> decide

@[simp] theorem flagByte_c (z n h c : Bool) : (flagByte z n h c).getLsbD 4 = c := by
  cases z <;> cases n <;> cases h <;> cases c <;> decide

@[simp] theorem flagByte_low (z n h c : Bool) : flagByte z n h c &&& 0x0F#8 = 0#8 := by
  cases z <;> cases n <;> cases h <;> cases c <;> decide

end Sys2Proof.Machine
end

