-- ==== Sys2Proof/Laws/Memory.lean ====
section
/-! SUPPORT. The laws of memory: a read after a write, and that every memory operation keeps the canonical form. -/

namespace Sys2Proof.Machine

theorem Memory.wfFrom_cons (low k : Nat) (v : Byte) (m : List Host.Cell) :
    Memory.wfFrom low ((k, v) :: m) = true ↔
      low ≤ k ∧ k < 65536 ∧ v ≠ Config.unlistedByte ∧ Memory.wfFrom (k + 1) m = true := by
  simp [Memory.wfFrom, and_assoc]

/-- A canonical list from a higher address on is one from any lower address on. -/
theorem Memory.wfFrom_mono {low low' : Nat} (h : low ≤ low') (m : List Host.Cell)
    (hm : Memory.wfFrom low' m = true) : Memory.wfFrom low m = true := by
  cases m with
  | nil => rfl
  | cons c m =>
    obtain ⟨k, v⟩ := c
    rw [Memory.wfFrom_cons] at hm ⊢
    exact ⟨h.trans hm.1, hm.2⟩

/-- An address below every entry reads as unlisted. -/
theorem Memory.get_of_lt {low x : Nat} (m : List Host.Cell) (hm : Memory.wfFrom low m = true) (h : x < low) :
    Memory.get m x = Config.unlistedByte := by
  induction m generalizing low with
  | nil => rfl
  | cons c m ih =>
    obtain ⟨k, v⟩ := c
    rw [Memory.wfFrom_cons] at hm
    rw [Memory.get, if_neg (by omega)]
    exact ih hm.2.2.2 (by omega)

theorem Memory.set_wfFrom {low x : Nat} (v : Byte) (m : List Host.Cell) (hm : Memory.wfFrom low m = true)
    (hl : low ≤ x) (hx : x < 65536) : Memory.wfFrom low (Memory.set m x v) = true := by
  induction m generalizing low with
  | nil =>
    rw [Memory.set]
    split
    · rfl
    · rw [Memory.wfFrom_cons]
      exact ⟨hl, hx, ‹_›, rfl⟩
  | cons c m ih =>
    obtain ⟨k, w⟩ := c
    have hm' := hm
    rw [Memory.wfFrom_cons] at hm
    rw [Memory.set]
    split
    · split
      · exact hm'
      · rw [Memory.wfFrom_cons, Memory.wfFrom_cons]
        exact ⟨hl, hx, ‹_›, by omega, hm.2⟩
    · split
      · split
        · exact Memory.wfFrom_mono (by omega) m hm.2.2.2
        · rw [Memory.wfFrom_cons]
          exact ⟨hl, hx, ‹_›, by subst_vars; exact hm.2.2.2⟩
      · rw [Memory.wfFrom_cons]
        exact ⟨hm.1, hm.2.1, hm.2.2.1, ih hm.2.2.2 (by omega)⟩

/-- A write keeps the canonical form. -/
theorem Memory.set_wf (m : List Host.Cell) (x : Word) (v : Byte) (hm : Memory.wf m = true) :
    Memory.wf (Memory.set m x.toNat v) = true :=
  Memory.set_wfFrom v m hm (Nat.zero_le _) x.isLt

/-- A write leaves every other address alone. -/
theorem Memory.get_set_other (m : List Host.Cell) {x y : Nat} (v : Byte) (h : y ≠ x) :
    Memory.get (Memory.set m x v) y = Memory.get m y := by
  induction m with
  | nil =>
    rw [Memory.set]
    split
    · rfl
    · exact if_neg (Ne.symm h)
  | cons c m ih =>
    obtain ⟨k, w⟩ := c
    simp only [Memory.set]
    split_ifs with h1 h2 h3 h4
    · rfl
    · exact if_neg (Ne.symm h)
    · rw [Memory.get, if_neg (by omega)]
    · rw [Memory.get, Memory.get, if_neg (Ne.symm h), if_neg (by omega)]
    · rw [Memory.get, Memory.get, ih]

theorem Memory.get_set_same_from {low x : Nat} (m : List Host.Cell) (v : Byte)
    (hm : Memory.wfFrom low m = true) : Memory.get (Memory.set m x v) x = v := by
  induction m generalizing low with
  | nil =>
    rw [Memory.set]
    split
    · exact Eq.symm ‹_›
    · rw [Memory.get, if_pos rfl]
  | cons c m ih =>
    obtain ⟨k, w⟩ := c
    have hm' := hm
    rw [Memory.wfFrom_cons] at hm
    simp only [Memory.set]
    split_ifs with h1 h2 h3 h4
    · rw [h2, Memory.get, if_neg (by omega)]
      exact Memory.get_of_lt m hm.2.2.2 (by omega)
    · rw [Memory.get, if_pos rfl]
    · rw [h4]
      exact Memory.get_of_lt m hm.2.2.2 (by omega)
    · rw [Memory.get, if_pos rfl]
    · rw [Memory.get, if_neg (by omega)]
      exact ih hm.2.2.2

/-- In canonical memory a read after a write to the same address gives the value written. -/
theorem Memory.get_set_same (m : List Host.Cell) (x : Nat) (v : Byte) (hm : Memory.wf m = true) :
    Memory.get (Memory.set m x v) x = v :=
  Memory.get_set_same_from m v hm

/-- A load depends on the contents, the regions and what the Memory Unit remembers alone. -/
theorem State.load_congr {s t : State} (hm : t.mem = s.mem) (hr : t.regions = s.regions) (hu : t.unit = s.unit)
    (x : Word) : t.load x = s.load x := by
  simp only [State.load, hm, hr, hu]

/-- A load outside the addresses that the Memory Unit answers by itself depends on the contents and the regions. -/
theorem State.load_congr_of_plain {s t : State} {x : Word} (hm : Memory.get t.mem x.toNat = Memory.get s.mem x.toNat)
    (hr : t.regions = s.regions) (hu : t.unit = s.unit ∨ readPolicyAt s.regions x ≠ .unit) : t.load x = s.load x := by
  simp only [State.load, hr]
  split
  · rw [hm]
  · rfl
  · rfl
  · obtain hu | hu := hu
    · rw [hu]
    · exact absurd ‹_› hu

/-- A read whose answer the Memory Unit does not compute itself changes nothing. -/
theorem State.afterLoad_of_plain {s : State} {x : Word} (h : readPolicyAt s.regions x ≠ .unit) : s.afterLoad x = s := by
  unfold State.afterLoad unitAfterRead
  split <;> first | rfl | exact absurd ‹_› h

theorem State.afterLoad_of_unit {s : State} {x : Word} (h : readPolicyAt s.regions x = .unit) :
    s.afterLoad x = { s with unit := (Config.unitRead s.unit x).2 } := by
  unfold State.afterLoad unitAfterRead
  rw [h]

/-- A write to which the Memory Unit does not react by itself leaves what it remembers. -/
theorem State.afterStore_unit_of_plain {s : State} {x : Word} (v : Byte) (h : writePolicyAt s.regions x ≠ .unit) :
    (s.afterStore x v).unit = s.unit := by
  simp only [State.afterStore, unitAfterWrite]
  split <;> first | rfl | exact absurd ‹_› h

theorem State.afterStore_of_unit {s : State} {x : Word} (v : Byte) (h : writePolicyAt s.regions x = .unit) :
    s.afterStore x v = { s with unit := (Config.unitWrite s.unit x v).2 } := by
  simp only [State.afterStore, unitAfterWrite, memAfterWrite, h]

theorem State.afterStore_of_stored {s : State} {x : Word} (v : Byte) (h : writePolicyAt s.regions x = .stored) :
    s.afterStore x v = { s with mem := Memory.set s.mem x.toNat v } := by
  simp only [State.afterStore, unitAfterWrite, memAfterWrite, h]

theorem State.afterStore_of_ignored {s : State} {x : Word} (v : Byte) (h : writePolicyAt s.regions x = .ignored) :
    s.afterStore x v = s := by
  simp only [State.afterStore, unitAfterWrite, memAfterWrite, h]

theorem State.afterStore_of_fails {s : State} {x : Word} {info : MemInfo} (v : Byte)
    (h : writePolicyAt s.regions x = .fails info) : s.afterStore x v = s := by
  simp only [State.afterStore, unitAfterWrite, memAfterWrite, h]

/-- A write keeps memory canonical. -/
theorem memAfterWrite_wf (rs : List Region) (m : List Host.Cell) (x : Word) (v : Byte) (h : Memory.wf m = true) :
    Memory.wf (memAfterWrite rs m x v) = true := by
  unfold memAfterWrite
  split
  · exact Memory.set_wf m x v h
  · exact h
  · exact h
  · exact h

/-- A write leaves the contents of every other address. -/
theorem memAfterWrite_other (rs : List Region) (m : List Host.Cell) {x y : Word} (v : Byte) (h : y ≠ x) :
    Memory.get (memAfterWrite rs m x v) y.toNat = Memory.get m y.toNat := by
  unfold memAfterWrite
  split
  · exact Memory.get_set_other m v (fun e => h (BitVec.eq_of_toNat_eq e))
  · rfl
  · rfl
  · rfl

end Sys2Proof.Machine
end

