-- ==== Sys2Proof/Laws/State.lean ====
section
/-! SUPPORT. One lemma per field per named update of `State`, so that no later proof unfolds a record update; and the
register read-back lemmas. -/

namespace Sys2Proof.Machine

theorem forall_reg8 (P : Reg8 → Prop) (h : P .b ∧ P .c ∧ P .d ∧ P .e ∧ P .h ∧ P .l ∧ P .a) (r : Reg8) : P r := by
  obtain ⟨hb, hc, hd, he, hh, hl, ha⟩ := h
  cases r <;> assumption

@[simp] theorem State.setReg_f (s : State) (r : Reg8) (v : Byte) : (s.setReg r v).f = s.f := by cases r <;> rfl
@[simp] theorem State.setReg_pc (s : State) (r : Reg8) (v : Byte) : (s.setReg r v).pc = s.pc := by cases r <;> rfl
@[simp] theorem State.setReg_sp (s : State) (r : Reg8) (v : Byte) : (s.setReg r v).sp = s.sp := by cases r <;> rfl
@[simp] theorem State.setReg_clk (s : State) (r : Reg8) (v : Byte) : (s.setReg r v).clk = s.clk := by cases r <;> rfl
@[simp] theorem State.setReg_ime (s : State) (r : Reg8) (v : Byte) : (s.setReg r v).ime = s.ime := by cases r <;> rfl
@[simp] theorem State.setReg_halted (s : State) (r : Reg8) (v : Byte) : (s.setReg r v).halted = s.halted := by cases r <;> rfl
@[simp] theorem State.setReg_stopped (s : State) (r : Reg8) (v : Byte) : (s.setReg r v).stopped = s.stopped := by cases r <;> rfl
@[simp] theorem State.setReg_faulted (s : State) (r : Reg8) (v : Byte) : (s.setReg r v).faulted = s.faulted := by cases r <;> rfl
@[simp] theorem State.setReg_mem (s : State) (r : Reg8) (v : Byte) : (s.setReg r v).mem = s.mem := by cases r <;> rfl
@[simp] theorem State.setReg_regions (s : State) (r : Reg8) (v : Byte) : (s.setReg r v).regions = s.regions := by cases r <;> rfl
@[simp] theorem State.setReg_unit (s : State) (r : Reg8) (v : Byte) : (s.setReg r v).unit = s.unit := by cases r <;> rfl
@[simp] theorem State.setReg_clockBits (s : State) (r : Reg8) (v : Byte) : (s.setReg r v).clockBits = s.clockBits := by cases r <;> rfl

@[simp] theorem State.reg_setReg_same (s : State) (r : Reg8) (v : Byte) : (s.setReg r v).reg r = v := by cases r <;> rfl

theorem State.reg_setReg_other (s : State) (r q : Reg8) (v : Byte) (h : q ≠ r) : (s.setReg r v).reg q = s.reg q := by
  cases r <;> cases q <;> first | rfl | exact absurd rfl h

@[simp] theorem State.setHl_a (s : State) (v : Word) : (s.setHl v).a = s.a := rfl
@[simp] theorem State.setHl_f (s : State) (v : Word) : (s.setHl v).f = s.f := rfl
@[simp] theorem State.setHl_b (s : State) (v : Word) : (s.setHl v).b = s.b := rfl
@[simp] theorem State.setHl_c (s : State) (v : Word) : (s.setHl v).c = s.c := rfl
@[simp] theorem State.setHl_d (s : State) (v : Word) : (s.setHl v).d = s.d := rfl
@[simp] theorem State.setHl_e (s : State) (v : Word) : (s.setHl v).e = s.e := rfl
@[simp] theorem State.setHl_h (s : State) (v : Word) : (s.setHl v).h = hi v := rfl
@[simp] theorem State.setHl_l (s : State) (v : Word) : (s.setHl v).l = lo v := rfl
@[simp] theorem State.setHl_pc (s : State) (v : Word) : (s.setHl v).pc = s.pc := rfl
@[simp] theorem State.setHl_sp (s : State) (v : Word) : (s.setHl v).sp = s.sp := rfl
@[simp] theorem State.setHl_clk (s : State) (v : Word) : (s.setHl v).clk = s.clk := rfl
@[simp] theorem State.setHl_ime (s : State) (v : Word) : (s.setHl v).ime = s.ime := rfl
@[simp] theorem State.setHl_halted (s : State) (v : Word) : (s.setHl v).halted = s.halted := rfl
@[simp] theorem State.setHl_stopped (s : State) (v : Word) : (s.setHl v).stopped = s.stopped := rfl
@[simp] theorem State.setHl_faulted (s : State) (v : Word) : (s.setHl v).faulted = s.faulted := rfl
@[simp] theorem State.setHl_mem (s : State) (v : Word) : (s.setHl v).mem = s.mem := rfl
@[simp] theorem State.setHl_regions (s : State) (v : Word) : (s.setHl v).regions = s.regions := rfl
@[simp] theorem State.setHl_unit (s : State) (v : Word) : (s.setHl v).unit = s.unit := rfl
@[simp] theorem State.setHl_clockBits (s : State) (v : Word) : (s.setHl v).clockBits = s.clockBits := rfl

@[simp] theorem State.setReg16_a (s : State) (rr : Reg16) (v : Word) : (s.setReg16 rr v).a = s.a := by cases rr <;> rfl
@[simp] theorem State.setReg16_f (s : State) (rr : Reg16) (v : Word) : (s.setReg16 rr v).f = s.f := by cases rr <;> rfl
@[simp] theorem State.setReg16_pc (s : State) (rr : Reg16) (v : Word) : (s.setReg16 rr v).pc = s.pc := by cases rr <;> rfl
@[simp] theorem State.setReg16_clk (s : State) (rr : Reg16) (v : Word) : (s.setReg16 rr v).clk = s.clk := by cases rr <;> rfl
@[simp] theorem State.setReg16_ime (s : State) (rr : Reg16) (v : Word) : (s.setReg16 rr v).ime = s.ime := by cases rr <;> rfl
@[simp] theorem State.setReg16_halted (s : State) (rr : Reg16) (v : Word) : (s.setReg16 rr v).halted = s.halted := by cases rr <;> rfl
@[simp] theorem State.setReg16_stopped (s : State) (rr : Reg16) (v : Word) : (s.setReg16 rr v).stopped = s.stopped := by cases rr <;> rfl
@[simp] theorem State.setReg16_faulted (s : State) (rr : Reg16) (v : Word) : (s.setReg16 rr v).faulted = s.faulted := by cases rr <;> rfl
@[simp] theorem State.setReg16_mem (s : State) (rr : Reg16) (v : Word) : (s.setReg16 rr v).mem = s.mem := by cases rr <;> rfl
@[simp] theorem State.setReg16_regions (s : State) (rr : Reg16) (v : Word) : (s.setReg16 rr v).regions = s.regions := by cases rr <;> rfl
@[simp] theorem State.setReg16_unit (s : State) (rr : Reg16) (v : Word) : (s.setReg16 rr v).unit = s.unit := by cases rr <;> rfl
@[simp] theorem State.setReg16_clockBits (s : State) (rr : Reg16) (v : Word) : (s.setReg16 rr v).clockBits = s.clockBits := by cases rr <;> rfl

@[simp] theorem State.setStackPair_pc (s : State) (p : StackPair) (v : Word) : (s.setStackPair p v).pc = s.pc := by cases p <;> rfl
@[simp] theorem State.setStackPair_sp (s : State) (p : StackPair) (v : Word) : (s.setStackPair p v).sp = s.sp := by cases p <;> rfl
@[simp] theorem State.setStackPair_clk (s : State) (p : StackPair) (v : Word) : (s.setStackPair p v).clk = s.clk := by cases p <;> rfl
@[simp] theorem State.setStackPair_ime (s : State) (p : StackPair) (v : Word) : (s.setStackPair p v).ime = s.ime := by cases p <;> rfl
@[simp] theorem State.setStackPair_halted (s : State) (p : StackPair) (v : Word) : (s.setStackPair p v).halted = s.halted := by cases p <;> rfl
@[simp] theorem State.setStackPair_stopped (s : State) (p : StackPair) (v : Word) : (s.setStackPair p v).stopped = s.stopped := by cases p <;> rfl
@[simp] theorem State.setStackPair_faulted (s : State) (p : StackPair) (v : Word) : (s.setStackPair p v).faulted = s.faulted := by cases p <;> rfl
@[simp] theorem State.setStackPair_mem (s : State) (p : StackPair) (v : Word) : (s.setStackPair p v).mem = s.mem := by cases p <;> rfl
@[simp] theorem State.setStackPair_regions (s : State) (p : StackPair) (v : Word) : (s.setStackPair p v).regions = s.regions := by cases p <;> rfl
@[simp] theorem State.setStackPair_unit (s : State) (p : StackPair) (v : Word) : (s.setStackPair p v).unit = s.unit := by cases p <;> rfl
@[simp] theorem State.setStackPair_clockBits (s : State) (p : StackPair) (v : Word) : (s.setStackPair p v).clockBits = s.clockBits := by cases p <;> rfl

@[simp] theorem State.setFlags_a (s : State) (z n h c : Option Bool) : (s.setFlags z n h c).a = s.a := rfl
@[simp] theorem State.setFlags_f (s : State) (z n h c : Option Bool) : (s.setFlags z n h c).f = flagByte (z.getD s.flagZ) (n.getD s.flagN) (h.getD s.flagH) (c.getD s.flagC) := rfl
@[simp] theorem State.setFlags_b (s : State) (z n h c : Option Bool) : (s.setFlags z n h c).b = s.b := rfl
@[simp] theorem State.setFlags_c (s : State) (z n h c : Option Bool) : (s.setFlags z n h c).c = s.c := rfl
@[simp] theorem State.setFlags_d (s : State) (z n h c : Option Bool) : (s.setFlags z n h c).d = s.d := rfl
@[simp] theorem State.setFlags_e (s : State) (z n h c : Option Bool) : (s.setFlags z n h c).e = s.e := rfl
@[simp] theorem State.setFlags_h (s : State) (z n h c : Option Bool) : (s.setFlags z n h c).h = s.h := rfl
@[simp] theorem State.setFlags_l (s : State) (z n h c : Option Bool) : (s.setFlags z n h c).l = s.l := rfl
@[simp] theorem State.setFlags_pc (s : State) (z n h c : Option Bool) : (s.setFlags z n h c).pc = s.pc := rfl
@[simp] theorem State.setFlags_sp (s : State) (z n h c : Option Bool) : (s.setFlags z n h c).sp = s.sp := rfl
@[simp] theorem State.setFlags_clk (s : State) (z n h c : Option Bool) : (s.setFlags z n h c).clk = s.clk := rfl
@[simp] theorem State.setFlags_ime (s : State) (z n h c : Option Bool) : (s.setFlags z n h c).ime = s.ime := rfl
@[simp] theorem State.setFlags_halted (s : State) (z n h c : Option Bool) : (s.setFlags z n h c).halted = s.halted := rfl
@[simp] theorem State.setFlags_stopped (s : State) (z n h c : Option Bool) : (s.setFlags z n h c).stopped = s.stopped := rfl
@[simp] theorem State.setFlags_faulted (s : State) (z n h c : Option Bool) : (s.setFlags z n h c).faulted = s.faulted := rfl
@[simp] theorem State.setFlags_mem (s : State) (z n h c : Option Bool) : (s.setFlags z n h c).mem = s.mem := rfl
@[simp] theorem State.setFlags_regions (s : State) (z n h c : Option Bool) : (s.setFlags z n h c).regions = s.regions := rfl
@[simp] theorem State.setFlags_unit (s : State) (z n h c : Option Bool) : (s.setFlags z n h c).unit = s.unit := rfl
@[simp] theorem State.setFlags_clockBits (s : State) (z n h c : Option Bool) : (s.setFlags z n h c).clockBits = s.clockBits := rfl

@[simp] theorem State.afterLoad_a (s : State) (x : Word) : (s.afterLoad x).a = s.a := rfl
@[simp] theorem State.afterLoad_f (s : State) (x : Word) : (s.afterLoad x).f = s.f := rfl
@[simp] theorem State.afterLoad_b (s : State) (x : Word) : (s.afterLoad x).b = s.b := rfl
@[simp] theorem State.afterLoad_c (s : State) (x : Word) : (s.afterLoad x).c = s.c := rfl
@[simp] theorem State.afterLoad_d (s : State) (x : Word) : (s.afterLoad x).d = s.d := rfl
@[simp] theorem State.afterLoad_e (s : State) (x : Word) : (s.afterLoad x).e = s.e := rfl
@[simp] theorem State.afterLoad_h (s : State) (x : Word) : (s.afterLoad x).h = s.h := rfl
@[simp] theorem State.afterLoad_l (s : State) (x : Word) : (s.afterLoad x).l = s.l := rfl
@[simp] theorem State.afterLoad_pc (s : State) (x : Word) : (s.afterLoad x).pc = s.pc := rfl
@[simp] theorem State.afterLoad_sp (s : State) (x : Word) : (s.afterLoad x).sp = s.sp := rfl
@[simp] theorem State.afterLoad_clk (s : State) (x : Word) : (s.afterLoad x).clk = s.clk := rfl
@[simp] theorem State.afterLoad_ime (s : State) (x : Word) : (s.afterLoad x).ime = s.ime := rfl
@[simp] theorem State.afterLoad_halted (s : State) (x : Word) : (s.afterLoad x).halted = s.halted := rfl
@[simp] theorem State.afterLoad_stopped (s : State) (x : Word) : (s.afterLoad x).stopped = s.stopped := rfl
@[simp] theorem State.afterLoad_faulted (s : State) (x : Word) : (s.afterLoad x).faulted = s.faulted := rfl
@[simp] theorem State.afterLoad_mem (s : State) (x : Word) : (s.afterLoad x).mem = s.mem := rfl
@[simp] theorem State.afterLoad_regions (s : State) (x : Word) : (s.afterLoad x).regions = s.regions := rfl
@[simp] theorem State.afterLoad_clockBits (s : State) (x : Word) : (s.afterLoad x).clockBits = s.clockBits := rfl
@[simp] theorem State.afterLoad_hl (s : State) (x : Word) : (s.afterLoad x).hl = s.hl := rfl
@[simp] theorem State.afterLoad_reg (s : State) (x : Word) (r : Reg8) : (s.afterLoad x).reg r = s.reg r := by cases r <;> rfl

@[simp] theorem State.afterStore_a (s : State) (x : Word) (v : Byte) : (s.afterStore x v).a = s.a := rfl
@[simp] theorem State.afterStore_f (s : State) (x : Word) (v : Byte) : (s.afterStore x v).f = s.f := rfl
@[simp] theorem State.afterStore_b (s : State) (x : Word) (v : Byte) : (s.afterStore x v).b = s.b := rfl
@[simp] theorem State.afterStore_c (s : State) (x : Word) (v : Byte) : (s.afterStore x v).c = s.c := rfl
@[simp] theorem State.afterStore_d (s : State) (x : Word) (v : Byte) : (s.afterStore x v).d = s.d := rfl
@[simp] theorem State.afterStore_e (s : State) (x : Word) (v : Byte) : (s.afterStore x v).e = s.e := rfl
@[simp] theorem State.afterStore_h (s : State) (x : Word) (v : Byte) : (s.afterStore x v).h = s.h := rfl
@[simp] theorem State.afterStore_l (s : State) (x : Word) (v : Byte) : (s.afterStore x v).l = s.l := rfl
@[simp] theorem State.afterStore_pc (s : State) (x : Word) (v : Byte) : (s.afterStore x v).pc = s.pc := rfl
@[simp] theorem State.afterStore_sp (s : State) (x : Word) (v : Byte) : (s.afterStore x v).sp = s.sp := rfl
@[simp] theorem State.afterStore_clk (s : State) (x : Word) (v : Byte) : (s.afterStore x v).clk = s.clk := rfl
@[simp] theorem State.afterStore_ime (s : State) (x : Word) (v : Byte) : (s.afterStore x v).ime = s.ime := rfl
@[simp] theorem State.afterStore_halted (s : State) (x : Word) (v : Byte) : (s.afterStore x v).halted = s.halted := rfl
@[simp] theorem State.afterStore_stopped (s : State) (x : Word) (v : Byte) : (s.afterStore x v).stopped = s.stopped := rfl
@[simp] theorem State.afterStore_faulted (s : State) (x : Word) (v : Byte) : (s.afterStore x v).faulted = s.faulted := rfl
@[simp] theorem State.afterStore_regions (s : State) (x : Word) (v : Byte) : (s.afterStore x v).regions = s.regions := rfl
@[simp] theorem State.afterStore_clockBits (s : State) (x : Word) (v : Byte) : (s.afterStore x v).clockBits = s.clockBits := rfl
@[simp] theorem State.afterStore_hl (s : State) (x : Word) (v : Byte) : (s.afterStore x v).hl = s.hl := rfl
@[simp] theorem State.afterStore_reg (s : State) (x : Word) (v : Byte) (r : Reg8) : (s.afterStore x v).reg r = s.reg r := by cases r <;> rfl

@[simp] theorem tick_a (s : State) (n : Nat) : (tick n s).a = s.a := rfl
@[simp] theorem tick_f (s : State) (n : Nat) : (tick n s).f = s.f := rfl
@[simp] theorem tick_b (s : State) (n : Nat) : (tick n s).b = s.b := rfl
@[simp] theorem tick_c (s : State) (n : Nat) : (tick n s).c = s.c := rfl
@[simp] theorem tick_d (s : State) (n : Nat) : (tick n s).d = s.d := rfl
@[simp] theorem tick_e (s : State) (n : Nat) : (tick n s).e = s.e := rfl
@[simp] theorem tick_h (s : State) (n : Nat) : (tick n s).h = s.h := rfl
@[simp] theorem tick_l (s : State) (n : Nat) : (tick n s).l = s.l := rfl
@[simp] theorem tick_pc (s : State) (n : Nat) : (tick n s).pc = s.pc := rfl
@[simp] theorem tick_sp (s : State) (n : Nat) : (tick n s).sp = s.sp := rfl
@[simp] theorem tick_clk (s : State) (n : Nat) : (tick n s).clk = tickClock s.clockBits s.clk n := rfl
@[simp] theorem tick_ime (s : State) (n : Nat) : (tick n s).ime = s.ime := rfl
@[simp] theorem tick_halted (s : State) (n : Nat) : (tick n s).halted = s.halted := rfl
@[simp] theorem tick_stopped (s : State) (n : Nat) : (tick n s).stopped = s.stopped := rfl
@[simp] theorem tick_faulted (s : State) (n : Nat) : (tick n s).faulted = s.faulted := rfl
@[simp] theorem tick_mem (s : State) (n : Nat) : (tick n s).mem = s.mem := rfl
@[simp] theorem tick_regions (s : State) (n : Nat) : (tick n s).regions = s.regions := rfl
@[simp] theorem tick_unit (s : State) (n : Nat) : (tick n s).unit = s.unit := rfl
@[simp] theorem tick_clockBits (s : State) (n : Nat) : (tick n s).clockBits = s.clockBits := rfl

@[simp] theorem tick_reg (s : State) (n : Nat) (r : Reg8) : (tick n s).reg r = s.reg r := by cases r <;> rfl
@[simp] theorem setFlags_reg (s : State) (z n h c : Option Bool) (r : Reg8) : (s.setFlags z n h c).reg r = s.reg r := by cases r <;> rfl
@[simp] theorem tick_hl (s : State) (n : Nat) : (tick n s).hl = s.hl := rfl

end Sys2Proof.Machine
end

