-- ==== Sys2Proof/Laws/Ops.lean ====
section
/-! SUPPORT. For each shared operation of Machine/Ops.lean, Operands.lean and Fetch.lean, one lemma that says everything
it can do when it answers a next state, and one that says when it does. -/

namespace Sys2Proof.Machine

@[simp] theorem andThen_next {α β : Type} (v : α) (s : State) (k : α → State → Host.Outcome β Fault Refusal) :
    andThen (.next (v, s)) k = k v s := rfl

@[simp] theorem thenDo_next {β : Type} (s : State) (k : State → Host.Outcome β Fault Refusal) :
    thenDo (.next s) k = k s := rfl

@[simp] theorem andThen_fault {α β : Type} (x : Fault) (k : α → State → Host.Outcome β Fault Refusal) :
    andThen (.fault x) k = .fault x := rfl

@[simp] theorem thenDo_fault {β : Type} (x : Fault) (k : State → Host.Outcome β Fault Refusal) :
    thenDo (.fault x) k = .fault x := rfl

theorem andThen_eq_next {α β : Type} {r : Res α} {k : α → State → Host.Outcome β Fault Refusal} {t : β}
    (h : andThen r k = .next t) : ∃ v s, r = .next (v, s) ∧ k v s = .next t := by
  match r with
  | .next (v, s) => exact ⟨v, s, rfl, h⟩
  | .fault _ => cases h
  | .refused _ => cases h

theorem thenDo_eq_next {β : Type} {r : Out} {k : State → Host.Outcome β Fault Refusal} {t : β}
    (h : thenDo r k = .next t) : ∃ s, r = .next s ∧ k s = .next t := by
  match r with
  | .next s => exact ⟨s, rfl, h⟩
  | .fault _ => cases h
  | .refused _ => cases h

theorem finish_eq_next {n : Nat} {s t : State} (h : finish n s = .next t) : t = tick n s :=
  (Host.Outcome.next.inj h).symm

@[simp] theorem State.afterPop_a (s : State) : s.afterPop.a = s.a := rfl
@[simp] theorem State.afterPop_f (s : State) : s.afterPop.f = s.f := rfl
@[simp] theorem State.afterPop_b (s : State) : s.afterPop.b = s.b := rfl
@[simp] theorem State.afterPop_c (s : State) : s.afterPop.c = s.c := rfl
@[simp] theorem State.afterPop_d (s : State) : s.afterPop.d = s.d := rfl
@[simp] theorem State.afterPop_e (s : State) : s.afterPop.e = s.e := rfl
@[simp] theorem State.afterPop_h (s : State) : s.afterPop.h = s.h := rfl
@[simp] theorem State.afterPop_l (s : State) : s.afterPop.l = s.l := rfl
@[simp] theorem State.afterPop_pc (s : State) : s.afterPop.pc = s.pc := rfl
@[simp] theorem State.afterPop_sp (s : State) : s.afterPop.sp = s.sp := rfl
@[simp] theorem State.afterPop_clk (s : State) : s.afterPop.clk = s.clk := rfl
@[simp] theorem State.afterPop_ime (s : State) : s.afterPop.ime = s.ime := rfl
@[simp] theorem State.afterPop_halted (s : State) : s.afterPop.halted = s.halted := rfl
@[simp] theorem State.afterPop_stopped (s : State) : s.afterPop.stopped = s.stopped := rfl
@[simp] theorem State.afterPop_faulted (s : State) : s.afterPop.faulted = s.faulted := rfl
@[simp] theorem State.afterPop_mem (s : State) : s.afterPop.mem = s.mem := rfl
@[simp] theorem State.afterPop_regions (s : State) : s.afterPop.regions = s.regions := rfl
@[simp] theorem State.afterPop_clockBits (s : State) : s.afterPop.clockBits = s.clockBits := rfl

theorem memRead_ok {s : State} {x : Word} {v : Byte} (h : s.load x = .ok v) :
    memRead s x = .next (v, s.afterLoad x) := by
  unfold memRead
  rw [h]

theorem memRead_error {s : State} {x : Word} {info : MemInfo} (h : s.load x = .error info) :
    memRead s x = .fault (.memoryAccessFailure info { s.afterLoad x with faulted := true }) := by
  unfold memRead
  rw [h]
  rfl

/-- A read answers what the Memory Unit answers and changes at most what the Memory Unit remembers. -/
theorem memRead_eq_next {s t : State} {x : Word} {v : Byte} (h : memRead s x = .next (v, t)) :
    t = s.afterLoad x ∧ s.load x = .ok v := by
  unfold memRead at h
  split at h
  · cases h
    exact ⟨rfl, ‹_›⟩
  · cases h

/-- What a write can do: the Memory Unit took it, and the state is the one after it. -/
theorem memWrite_eq_next {s t : State} {x : Word} {v : Byte} (h : memWrite s x v = .next t) :
    t = s.afterStore x v ∧ s.canWrite x v := by
  unfold memWrite at h
  split at h
  · cases h
    exact ⟨rfl, ‹_›⟩
  · cases h

theorem memWrite_ok {s : State} {x : Word} {v : Byte} (h : s.canWrite x v) :
    memWrite s x v = .next (s.afterStore x v) := by
  unfold memWrite
  rw [show s.storeFailure x v = none from h]

theorem memWrite_fails {s : State} {x : Word} {v : Byte} {info : MemInfo} (h : s.storeFailure x v = some info) :
    memWrite s x v = .fault (.memoryAccessFailure info { s.afterStore x v with faulted := true }) := by
  unfold memWrite
  rw [h]
  rfl

theorem memInv_afterStore {s : State} (x : Word) (v : Byte) (h : MemInv s) : MemInv (s.afterStore x v) :=
  memAfterWrite_wf _ _ _ _ h

/-- Where the Memory Unit is RAM, a write is taken. -/
theorem State.isRam.canWrite {s : State} {x : Word} (h : s.isRam x) (v : Byte) : s.canWrite x v := by
  unfold State.canWrite State.storeFailure
  rw [h.2]

/-- A write shows at its address what `ShowsStored` says. -/
theorem showsStored_afterStore (s : State) (x : Word) (v : Byte) : ShowsStored x v s (s.afterStore x v) := by
  refine ⟨fun hm hr => ?_, fun hi _ => ?_⟩
  · rw [State.afterStore_of_stored v hr.2]
    simp only [State.load, hr.1]
    rw [Memory.get_set_same _ _ _ hm]
  · rw [State.afterStore_of_ignored v hi]

/-- A write leaves every other address, but for a switched bank. -/
theorem sameMemoryBut_afterStore (s : State) (x : Word) (v : Byte) : SameMemoryBut [x] s (s.afterStore x v) := by
  intro y hy hu
  refine State.load_congr_of_plain (memAfterWrite_other _ _ v (by simpa using hy)) rfl ?_
  by_cases hr : readPolicyAt s.regions y = .unit
  · exact .inl (State.afterStore_unit_of_plain v (hu hr x (by simp)))
  · exact .inr hr

theorem stores_afterStore (s : State) (x : Word) (v : Byte) : Stores x v s (s.afterStore x v) :=
  ⟨sameMemoryBut_afterStore s x v, showsStored_afterStore s x v, rfl⟩

/-- A further write at another address leaves what the first one shows. -/
theorem ShowsStored.afterStore {s t : State} {x y : Word} {v w : Byte} (h : ShowsStored x v s t)
    (hr : t.regions = s.regions) (hne : x ≠ y) : ShowsStored x v s (t.afterStore y w) := by
  have key : readPolicyAt s.regions x ≠ .unit → (t.afterStore y w).load x = t.load x := fun hu =>
    sameMemoryBut_afterStore t y w x (by simpa using hne) (fun e => absurd (hr ▸ e) hu)
  exact ⟨fun hm hram => (key (by rw [hram.1]; simp)).trans (h.1 hm hram), fun hi hu => (key hu).trans (h.2 hi hu)⟩

/-- Two writes at different addresses are `StoresTwo`. -/
theorem storesTwo_afterStore (s : State) {x y : Word} (v w : Byte) (hne : x ≠ y) :
    StoresTwo x v y w s ((s.afterStore x v).afterStore y w) := by
  refine ⟨fun z hz hu => ?_, (showsStored_afterStore s x v).afterStore rfl hne, ?_, rfl⟩
  · simp only [List.mem_cons, List.not_mem_nil, or_false, not_or] at hz
    exact (sameMemoryBut_afterStore (s.afterStore x v) y w z (by simpa using hz.2) (fun e z' hz' =>
      hu e z' (by simp only [List.mem_singleton] at hz'; simp [hz']))).trans
      (sameMemoryBut_afterStore s x v z (by simpa using hz.1) (fun e z' hz' =>
        hu e z' (by simp only [List.mem_singleton] at hz'; simp [hz'])))
  · have h := showsStored_afterStore (s.afterStore x v) y w
    refine ⟨fun hm hr => h.1 (memInv_afterStore x v hm) hr, fun hi hu => (h.2 hi hu).trans ?_⟩
    exact sameMemoryBut_afterStore s x v y (by simpa using hne.symm) (fun e => absurd e hu)

theorem fetch8_ok {s : State} {v : Byte} (h : s.load s.pc = .ok v) :
    fetch8 s = .next (v, { s.afterLoad s.pc with pc := s.pc + 1#16 }) := by
  unfold fetch8
  rw [memRead_ok h]
  rfl

theorem fetch8_fails {s : State} {info : MemInfo} (h : s.load s.pc = .error info) :
    fetch8 s = .fault (.memoryAccessFailure info { s.afterLoad s.pc with faulted := true }) := by
  unfold fetch8
  rw [memRead_error h]
  rfl

theorem fetch8_eq_next {s t : State} {v : Byte} (h : fetch8 s = .next (v, t)) :
    s.load s.pc = .ok v ∧ t = { s.afterLoad s.pc with pc := s.pc + 1#16 } := by
  obtain ⟨w, u, hr, hk⟩ := andThen_eq_next h
  obtain ⟨rfl, hl⟩ := memRead_eq_next hr
  cases hk
  exact ⟨hl, rfl⟩

theorem sub_one_sub_one (x : Word) : x - 1#16 - 1#16 = x - 2#16 := by bv_omega

theorem add_one_add_one (x : Word) : x + 1#16 + 1#16 = x + 2#16 := by bv_omega

theorem sub_one_ne_sub_two (x : Word) : x - 1#16 ≠ x - 2#16 := by bv_omega

theorem fetch16_ok {s : State} {l g : Byte} (hl : s.load s.pc = .ok l)
    (hg : (s.afterLoad s.pc).load (s.pc + 1#16) = .ok g) :
    fetch16 s = .next (join g l, { (s.afterLoad s.pc).afterLoad (s.pc + 1#16) with pc := s.pc + 2#16 }) := by
  have h2 := fetch8_ok (s := { s.afterLoad s.pc with pc := s.pc + 1#16 }) hg
  unfold fetch16
  rw [fetch8_ok hl]
  simp only [andThen_next]
  rw [h2]
  exact congrArg (fun p => Host.Outcome.next (join g l, { (s.afterLoad s.pc).afterLoad (s.pc + 1#16) with pc := p }))
    (add_one_add_one s.pc)

theorem fetch16_fails_first {s : State} {info : MemInfo} (h : s.load s.pc = .error info) :
    fetch16 s = .fault (.memoryAccessFailure info { s.afterLoad s.pc with faulted := true }) := by
  unfold fetch16
  rw [fetch8_fails h]
  rfl

/-- An immediate whose second byte fails has moved PC by one (R57, R233). -/
theorem fetch16_fails_second {s : State} {l : Byte} {info : MemInfo} (hl : s.load s.pc = .ok l)
    (h : (s.afterLoad s.pc).load (s.pc + 1#16) = .error info) :
    fetch16 s = .fault (.memoryAccessFailure info
      { (s.afterLoad s.pc).afterLoad (s.pc + 1#16) with pc := s.pc + 1#16, faulted := true }) := by
  have h2 := fetch8_fails (s := { s.afterLoad s.pc with pc := s.pc + 1#16 }) h
  unfold fetch16
  rw [fetch8_ok hl]
  simp only [andThen_next]
  rw [h2]
  rfl

theorem fetch16_eq_next {s t : State} {v : Word} (h : fetch16 s = .next (v, t)) :
    ∃ l g, s.load s.pc = .ok l ∧ (s.afterLoad s.pc).load (s.pc + 1#16) = .ok g ∧ v = join g l ∧
      t = { (s.afterLoad s.pc).afterLoad (s.pc + 1#16) with pc := s.pc + 1#16 + 1#16 } := by
  obtain ⟨l, u, h1, h⟩ := andThen_eq_next h
  obtain ⟨hl, rfl⟩ := fetch8_eq_next h1
  obtain ⟨g, w, h2, h⟩ := andThen_eq_next h
  obtain ⟨hg, rfl⟩ := fetch8_eq_next h2
  cases h
  exact ⟨l, g, hl, hg, rfl, rfl⟩

/-- The state after a push of `v`, both bytes taken (R58). -/
def pushedState (s : State) (v : Word) : State :=
  { (s.afterStore (s.sp - 1#16) (hi v)).afterStore (s.sp - 2#16) (lo v) with sp := s.sp - 2#16 }

@[simp] theorem pushedState_a (s : State) (v : Word) : (pushedState s v).a = s.a := rfl
@[simp] theorem pushedState_f (s : State) (v : Word) : (pushedState s v).f = s.f := rfl
@[simp] theorem pushedState_b (s : State) (v : Word) : (pushedState s v).b = s.b := rfl
@[simp] theorem pushedState_c (s : State) (v : Word) : (pushedState s v).c = s.c := rfl
@[simp] theorem pushedState_d (s : State) (v : Word) : (pushedState s v).d = s.d := rfl
@[simp] theorem pushedState_e (s : State) (v : Word) : (pushedState s v).e = s.e := rfl
@[simp] theorem pushedState_h (s : State) (v : Word) : (pushedState s v).h = s.h := rfl
@[simp] theorem pushedState_l (s : State) (v : Word) : (pushedState s v).l = s.l := rfl
@[simp] theorem pushedState_pc (s : State) (v : Word) : (pushedState s v).pc = s.pc := rfl
@[simp] theorem pushedState_clk (s : State) (v : Word) : (pushedState s v).clk = s.clk := rfl
@[simp] theorem pushedState_ime (s : State) (v : Word) : (pushedState s v).ime = s.ime := rfl
@[simp] theorem pushedState_halted (s : State) (v : Word) : (pushedState s v).halted = s.halted := rfl
@[simp] theorem pushedState_stopped (s : State) (v : Word) : (pushedState s v).stopped = s.stopped := rfl
@[simp] theorem pushedState_faulted (s : State) (v : Word) : (pushedState s v).faulted = s.faulted := rfl
@[simp] theorem pushedState_regions (s : State) (v : Word) : (pushedState s v).regions = s.regions := rfl
@[simp] theorem pushedState_clockBits (s : State) (v : Word) : (pushedState s v).clockBits = s.clockBits := rfl
@[simp] theorem pushedState_sp (s : State) (v : Word) : (pushedState s v).sp = s.sp - 2#16 := rfl
@[simp] theorem pushedState_reg (s : State) (v : Word) (r : Reg8) : (pushedState s v).reg r = s.reg r := by
  cases r <;> simp only [State.reg, pushedState_a, pushedState_b, pushedState_c, pushedState_d, pushedState_e,
    pushedState_h, pushedState_l]

/-- A push completes where the Memory Unit takes both bytes. -/
theorem push16_ok {s : State} {v : Word} (h : s.canPush v) : push16 s v = .next (pushedState s v) := by
  have h2 : State.canWrite { s.afterStore (s.sp - 1#16) (hi v) with sp := s.sp - 2#16 } (s.sp - 2#16) (lo v) := h.2
  unfold push16 stackDown
  dsimp only
  rw [memWrite_ok (s := { s with sp := s.sp - 1#16 }) h.1]
  simp only [thenDo_next, State.afterStore_sp, sub_one_sub_one]
  exact memWrite_ok h2

/-- What a push can do (R58). -/
theorem push16_eq_next {s t : State} {v : Word} (h : push16 s v = .next t) : s.canPush v ∧ t = pushedState s v := by
  have key : s.canPush v := by
    obtain ⟨u, hu, h⟩ := thenDo_eq_next h
    obtain ⟨rfl, h1⟩ := memWrite_eq_next hu
    obtain ⟨-, h2⟩ := memWrite_eq_next h
    refine ⟨h1, ?_⟩
    have e : (stackDown (State.afterStore (stackDown s) (stackDown s).sp (hi v))).sp = s.sp - 2#16 :=
      sub_one_sub_one s.sp
    rw [e] at h2
    exact h2
  rw [push16_ok key] at h
  exact ⟨key, (Host.Outcome.next.inj h).symm⟩

/-- A push puts the high byte at SP - 1 and the low byte at SP - 2 (R58). -/
theorem pushed_pushedState (s : State) (v : Word) : Pushed v s (pushedState s v) :=
  ⟨storesTwo_afterStore s (hi v) (lo v) (sub_one_ne_sub_two s.sp), rfl⟩

theorem memInv_pushedState {s : State} (v : Word) (h : MemInv s) : MemInv (pushedState s v) :=
  memInv_afterStore _ _ (memInv_afterStore _ _ h)

/-- A push whose first write fails has moved SP by one (R58, R233). -/
theorem push16_fails_first {s : State} {v : Word} {info : MemInfo}
    (h : s.storeFailure (s.sp - 1#16) (hi v) = some info) :
    push16 s v = .fault (.memoryAccessFailure info
      { s.afterStore (s.sp - 1#16) (hi v) with sp := s.sp - 1#16, faulted := true }) := by
  unfold push16 stackDown
  dsimp only
  rw [memWrite_fails (s := { s with sp := s.sp - 1#16 }) h]
  rfl

/-- A push whose second write fails has moved SP by two and stored the high byte (R58, R233). -/
theorem push16_fails_second {s : State} {v : Word} {info : MemInfo} (h1 : s.canWrite (s.sp - 1#16) (hi v))
    (h : (s.afterStore (s.sp - 1#16) (hi v)).storeFailure (s.sp - 2#16) (lo v) = some info) :
    push16 s v = .fault (.memoryAccessFailure info { pushedState s v with faulted := true }) := by
  have h2 : State.storeFailure { s.afterStore (s.sp - 1#16) (hi v) with sp := s.sp - 2#16 } (s.sp - 2#16) (lo v) =
      some info := h
  unfold push16 stackDown
  dsimp only
  rw [memWrite_ok (s := { s with sp := s.sp - 1#16 }) h1]
  simp only [thenDo_next, State.afterStore_sp, sub_one_sub_one]
  exact memWrite_fails h2

theorem pop16_ok {s : State} {l h : Byte} (hr : s.popReads l h) :
    pop16 s = .next (join h l, { s.afterPop with sp := s.sp + 2#16 }) := by
  have h2 : State.load (stackUp (s.afterLoad s.sp)) (stackUp (s.afterLoad s.sp)).sp = .ok h := hr.2
  unfold pop16
  rw [memRead_ok hr.1]
  simp only [andThen_next]
  rw [memRead_ok h2]
  exact congrArg (fun w => Host.Outcome.next (join h l, { s.afterPop with sp := w })) (add_one_add_one s.sp)

/-- What a pop can do: SP is two higher and the value is the two bytes at the old SP, low byte first (R59). -/
theorem pop16_eq_next {s t : State} {v : Word} (h : pop16 s = .next (v, t)) :
    ∃ l g, s.popReads l g ∧ v = join g l ∧ t = { s.afterPop with sp := s.sp + 2#16 } := by
  have key : ∃ l g, s.popReads l g := by
    obtain ⟨l, u, h1, h2⟩ := andThen_eq_next h
    obtain ⟨rfl, hl⟩ := memRead_eq_next h1
    obtain ⟨g, w, h3, -⟩ := andThen_eq_next h2
    exact ⟨l, g, hl, (memRead_eq_next h3).2⟩
  obtain ⟨l, g, hr⟩ := key
  rw [pop16_ok hr] at h
  cases h
  exact ⟨l, g, hr, rfl, rfl⟩

/-- A pop whose first read fails has not moved SP (R59, R233). -/
theorem pop16_fails_first {s : State} {info : MemInfo} (h : s.load s.sp = .error info) :
    pop16 s = .fault (.memoryAccessFailure info { s.afterLoad s.sp with faulted := true }) := by
  unfold pop16
  rw [memRead_error h]
  rfl

/-- A pop whose second read fails has moved SP by one (R59, R233). -/
theorem pop16_fails_second {s : State} {l : Byte} {info : MemInfo} (h1 : s.load s.sp = .ok l)
    (h : (s.afterLoad s.sp).load (s.sp + 1#16) = .error info) :
    pop16 s = .fault (.memoryAccessFailure info { s.afterPop with sp := s.sp + 1#16, faulted := true }) := by
  have h' : State.load (stackUp (s.afterLoad s.sp)) (stackUp (s.afterLoad s.sp)).sp = .error info := h
  unfold pop16
  rw [memRead_ok h1]
  simp only [andThen_next]
  rw [memRead_error h']
  rfl

theorem readR8_eq_next {s t : State} {x : Operand8} {v : Byte} (h : readR8 s x = .next (v, t)) :
    t = s.afterOperand x ∧ OperandHolds x v s := by
  cases x with
  | reg r => cases h; exact ⟨rfl, rfl⟩
  | indHl => exact memRead_eq_next h

theorem readR8_of_holds {s : State} {x : Operand8} {v : Byte} (h : OperandHolds x v s) :
    readR8 s x = .next (v, s.afterOperand x) := by
  cases x with
  | reg r => cases h; rfl
  | indHl => exact memRead_ok h

/-- The state after the operand `x` is written with `v`. -/
def State.withOperand (s : State) (x : Operand8) (v : Byte) : State :=
  match x with
  | .reg r => s.setReg r v
  | .indHl => s.afterStore s.hl v

/-- What writing an operand of table `r8` can do: one register, or memory at HL. -/
theorem writeR8_eq_next {s t : State} {x : Operand8} {v : Byte} (h : writeR8 s x v = .next t) :
    t = s.withOperand x v ∧ OperandWritable x v s := by
  cases x with
  | reg r => cases h; exact ⟨rfl, trivial⟩
  | indHl => exact memWrite_eq_next h

theorem writeR8_ok {s : State} {x : Operand8} {v : Byte} (h : OperandWritable x v s) :
    writeR8 s x v = .next (s.withOperand x v) := by
  cases x with
  | reg r => rfl
  | indHl => exact memWrite_ok h

/-- Fetching an instruction moves PC, and what the Memory Unit remembers, and nothing else. -/
theorem fetchInstr_eq_next {s t : State} {i : Instr} (h : fetchInstr s = .next (i, t)) :
    ∃ p u, t = { s with pc := p, unit := u } := by
  obtain ⟨op, s1, h1, h⟩ := andThen_eq_next h
  obtain ⟨-, rfl⟩ := fetch8_eq_next h1
  split at h
  · cases h; exact ⟨_, _, rfl⟩
  · obtain ⟨v, s2, h2, h⟩ := andThen_eq_next h
    obtain ⟨-, rfl⟩ := fetch8_eq_next h2
    cases h; exact ⟨_, _, rfl⟩
  · obtain ⟨v, s2, h2, h⟩ := andThen_eq_next h
    obtain ⟨l, g, -, -, -, rfl⟩ := fetch16_eq_next h2
    cases h; exact ⟨_, _, rfl⟩
  · obtain ⟨v, s2, h2, h⟩ := andThen_eq_next h
    obtain ⟨-, rfl⟩ := fetch8_eq_next h2
    cases h; exact ⟨_, _, rfl⟩

/-- A step that completes fetched an instruction and ran it on a core that was not faulted. -/
theorem step_eq_next {s t : State} (h : step s = .next t) :
    s.faulted = false ∧ ∃ i u, fetchInstr s = .next (i, u) ∧ exec i u = .next t := by
  unfold step stepWith at h
  split at h
  · cases h
  · rename_i hf
    exact ⟨by simpa using hf, andThen_eq_next h⟩

end Sys2Proof.Machine
end

