-- ==== Sys2Proof/Laws/Meanings.lean ====
section
/-! SUPPORT. For each operation the meanings share, what it can do when it answers a next state, and what every one of
them leaves alone. -/

namespace Sys2Proof.Machine

/-! What each shared operation does -/

theorem loadFrom_eq_next {dst : Reg8} {x : Word} {n : Nat} {s t : State} (h : loadFrom dst x n s = .next t) :
    ∃ v, s.load x = .ok v ∧ t = tick n ((s.afterLoad x).setReg dst v) := by
  obtain ⟨v, u, h1, h2⟩ := andThen_eq_next h
  obtain ⟨rfl, hl⟩ := memRead_eq_next h1
  exact ⟨v, hl, finish_eq_next h2⟩

theorem storeTo_eq_next {x : Word} {v : Byte} {n : Nat} {s t : State} (h : storeTo x v n s = .next t) :
    t = tick n (s.afterStore x v) := by
  obtain ⟨u, h1, h2⟩ := thenDo_eq_next h
  obtain ⟨rfl, -⟩ := memWrite_eq_next h1
  exact finish_eq_next h2

theorem loadFromHlThen_eq_next {next : Word} {s t : State} (h : loadFromHlThen next s = .next t) :
    ∃ v, s.load s.hl = .ok v ∧ t = tick 2 (State.setHl { s.afterLoad s.hl with a := v } next) := by
  obtain ⟨v, u, h1, h2⟩ := andThen_eq_next h
  obtain ⟨rfl, hl⟩ := memRead_eq_next h1
  exact ⟨v, hl, finish_eq_next h2⟩

theorem storeToHlThen_eq_next {next : Word} {s t : State} (h : storeToHlThen next s = .next t) :
    t = tick 2 ((s.afterStore s.hl s.a).setHl next) := by
  obtain ⟨u, h1, h2⟩ := thenDo_eq_next h
  obtain ⟨rfl, -⟩ := memWrite_eq_next h1
  exact finish_eq_next h2

theorem storeSp_eq_next {x : Word} {s t : State} (h : storeSp x s = .next t) :
    t = tick 5 ((s.afterStore x (lo s.sp)).afterStore (x + 1#16) (hi s.sp)) := by
  obtain ⟨u, h1, h2⟩ := thenDo_eq_next h
  obtain ⟨rfl, -⟩ := memWrite_eq_next h1
  obtain ⟨w, h3, h4⟩ := thenDo_eq_next h2
  obtain ⟨rfl, -⟩ := memWrite_eq_next h3
  exact finish_eq_next h4

theorem pushPair_eq_next {p : StackPair} {s t : State} (h : pushPair p s = .next t) :
    t = tick 4 (pushedState s (s.stackPair p)) := by
  obtain ⟨u, h1, h2⟩ := thenDo_eq_next h
  obtain ⟨-, rfl⟩ := push16_eq_next h1
  exact finish_eq_next h2

theorem popPair_eq_next {p : StackPair} {s t : State} (h : popPair p s = .next t) :
    ∃ l g, s.popReads l g ∧
      t = tick 3 (State.setStackPair { s.afterPop with sp := s.sp + 2#16 } p (join g l)) := by
  obtain ⟨v, u, h1, h2⟩ := andThen_eq_next h
  obtain ⟨l, g, hr, rfl, rfl⟩ := pop16_eq_next h1
  exact ⟨l, g, hr, finish_eq_next h2⟩

theorem aluOperand_eq_next {op : AluOp} {x : Operand8} {s t : State} (h : aluOperand op x s = .next t) :
    ∃ v, OperandHolds x v s ∧ t = tick (operandCost x 1 2) (applyAlu op v (s.afterOperand x)) := by
  obtain ⟨v, u, h1, h2⟩ := andThen_eq_next h
  obtain ⟨rfl, hv⟩ := readR8_eq_next h1
  exact ⟨v, hv, finish_eq_next h2⟩

theorem modifyWithFlags_eq_next {x : Operand8} {f : State → Byte → Result8} {n : Nat} {s t : State}
    (h : modifyWithFlags x f n s = .next t) :
    ∃ v, OperandHolds x v s ∧ t = tick n (((s.afterOperand x).withOperand x (f (s.afterOperand x) v).value).setFlagsOf
      (f (s.afterOperand x) v)) := by
  obtain ⟨v, u, h1, h2⟩ := andThen_eq_next h
  obtain ⟨rfl, hv⟩ := readR8_eq_next h1
  obtain ⟨w, h3, h4⟩ := thenDo_eq_next h2
  obtain ⟨rfl, -⟩ := writeR8_eq_next h3
  exact ⟨v, hv, finish_eq_next h4⟩

theorem testBit_eq_next {b : Nat} {x : Operand8} {s t : State} (h : testBit b x s = .next t) :
    ∃ v, OperandHolds x v s ∧ t = tick (operandCost x 2 3)
      ((s.afterOperand x).setFlags (some (!v.getLsbD b)) (some false) (some true) none) := by
  obtain ⟨v, u, h1, h2⟩ := andThen_eq_next h
  obtain ⟨rfl, hv⟩ := readR8_eq_next h1
  exact ⟨v, hv, finish_eq_next h2⟩

theorem modifyPlain_eq_next {x : Operand8} {f : Byte → Byte} {n : Nat} {s t : State}
    (h : modifyPlain x f n s = .next t) :
    ∃ v, OperandHolds x v s ∧ t = tick n ((s.afterOperand x).withOperand x (f v)) := by
  obtain ⟨v, u, h1, h2⟩ := andThen_eq_next h
  obtain ⟨rfl, hv⟩ := readR8_eq_next h1
  obtain ⟨w, h3, h4⟩ := thenDo_eq_next h2
  obtain ⟨rfl, -⟩ := writeR8_eq_next h3
  exact ⟨v, hv, finish_eq_next h4⟩

theorem callTo_eq_next {x : Word} {n : Nat} {s t : State} (h : callTo x n s = .next t) :
    t = tick n { pushedState s s.pc with pc := x } := by
  obtain ⟨u, h1, h2⟩ := thenDo_eq_next h
  obtain ⟨-, rfl⟩ := push16_eq_next h1
  exact finish_eq_next h2

theorem returnFrom_eq_next {n : Nat} {s t : State} (h : returnFrom n s = .next t) :
    ∃ l g, s.popReads l g ∧ t = tick n { s.afterPop with pc := join g l, sp := s.sp + 2#16 } := by
  obtain ⟨v, u, h1, h2⟩ := andThen_eq_next h
  obtain ⟨l, g, hr, rfl, rfl⟩ := pop16_eq_next h1
  exact ⟨l, g, hr, finish_eq_next h2⟩

theorem returnEnabling_eq_next {s t : State} (h : returnEnabling s = .next t) :
    ∃ l g, s.popReads l g ∧ t = tick 4 { s.afterPop with pc := join g l, sp := s.sp + 2#16, ime := true } := by
  obtain ⟨v, u, h1, h2⟩ := andThen_eq_next h
  obtain ⟨l, g, hr, rfl, rfl⟩ := pop16_eq_next h1
  exact ⟨l, g, hr, finish_eq_next h2⟩

/-! What all of them leave alone -/

/-- What a completed operation that is not one of HALT, STOP, DI, EI, RETI does to everything but the registers, PC, SP
and what the Memory Unit remembers: the shell's bits, the latch and the parameters stay, memory stays canonical, F keeps its low nibble zero, and the
clock ticks once. -/
structure Ordinary (s t : State) : Prop where
  ime : t.ime = s.ime
  halted : t.halted = s.halted
  stopped : t.stopped = s.stopped
  faulted : t.faulted = s.faulted
  regions : t.regions = s.regions
  clockBits : t.clockBits = s.clockBits
  mem : MemInv s → MemInv t
  flags : FlagNibbleZero s → FlagNibbleZero t
  clk : ∃ n, t.clk = tickClock s.clockBits s.clk n

/-- A state that differs from `s` in registers, F, PC and SP alone, and whose F is as good as that of `s`, is ordinary
after its tick. -/
theorem Ordinary.of_tick {s u : State} (n : Nat) (h1 : u.ime = s.ime) (h2 : u.halted = s.halted)
    (h3 : u.stopped = s.stopped) (h4 : u.faulted = s.faulted) (h5 : u.regions = s.regions)
    (h6 : u.clockBits = s.clockBits) (h7 : MemInv s → MemInv u) (h8 : FlagNibbleZero s → FlagNibbleZero u)
    (h9 : u.clk = s.clk) : Ordinary s (tick n u) :=
  ⟨h1, h2, h3, h4, h5, h6, h7, h8, n, by rw [tick_clk, h6, h9]⟩

theorem flagNibble_setFlags (s : State) (z n h c : Option Bool) : FlagNibbleZero (s.setFlags z n h c) :=
  flagByte_low _ _ _ _

theorem memInv_setReg {s : State} (r : Reg8) (v : Byte) (h : MemInv s) : MemInv (s.setReg r v) := by cases r <;> exact h

theorem flagNibble_setReg {s : State} (r : Reg8) (v : Byte) (h : FlagNibbleZero s) : FlagNibbleZero (s.setReg r v) := by
  cases r <;> exact h

/-- Reading an operand changes at most what the Memory Unit remembers. -/
theorem State.afterOperand_eq (s : State) (x : Operand8) : ∃ u, s.afterOperand x = { s with unit := u } := by
  cases x with
  | reg r => exact ⟨s.unit, rfl⟩
  | indHl => exact ⟨_, rfl⟩

theorem flagNibble_and_mask (v : Byte) : (v &&& 0xF0#8) &&& 0x0F#8 = 0#8 := by
  rw [BitVec.and_assoc]
  simp

theorem finish_ordinary {n : Nat} {s t : State} (h : finish n s = .next t) : Ordinary s t :=
  finish_eq_next h ▸ .of_tick n rfl rfl rfl rfl rfl rfl id id rfl

theorem ldRegReg_ordinary {dst src : Reg8} {s t : State} (h : ldRegReg dst src s = .next t) : Ordinary s t :=
  finish_eq_next h ▸ .of_tick 1 (by simp) (by simp) (by simp) (by simp) (by simp) (by simp) (by simp [MemInv])
    (by simp [FlagNibbleZero]) (by simp)

theorem ldRegImm_ordinary {dst : Reg8} {v : Byte} {s t : State} (h : ldRegImm dst v s = .next t) : Ordinary s t :=
  finish_eq_next h ▸ .of_tick 2 (by simp) (by simp) (by simp) (by simp) (by simp) (by simp) (by simp [MemInv])
    (by simp [FlagNibbleZero]) (by simp)

theorem loadFrom_ordinary {dst : Reg8} {x : Word} {n : Nat} {s t : State} (h : loadFrom dst x n s = .next t) :
    Ordinary s t := by
  obtain ⟨v, -, rfl⟩ := loadFrom_eq_next h
  exact .of_tick n (by simp) (by simp) (by simp) (by simp) (by simp) (by simp) (by simp [MemInv])
    (by simp [FlagNibbleZero]) (by simp)

theorem storeTo_ordinary {x : Word} {v : Byte} {n : Nat} {s t : State} (h : storeTo x v n s = .next t) :
    Ordinary s t := by
  obtain rfl := storeTo_eq_next h
  exact .of_tick n rfl rfl rfl rfl rfl rfl (memInv_afterStore x v) id rfl

theorem loadFromHlThen_ordinary {next : Word} {s t : State} (h : loadFromHlThen next s = .next t) :
    Ordinary s t := by
  obtain ⟨v, -, rfl⟩ := loadFromHlThen_eq_next h
  exact .of_tick 2 rfl rfl rfl rfl rfl rfl id id rfl

theorem storeToHlThen_ordinary {next : Word} {s t : State} (h : storeToHlThen next s = .next t) :
    Ordinary s t := by
  obtain rfl := storeToHlThen_eq_next h
  exact .of_tick 2 rfl rfl rfl rfl rfl rfl (memInv_afterStore s.hl s.a) id rfl

theorem ldReg16Imm_ordinary {rr : Reg16} {v : Word} {s t : State} (h : ldReg16Imm rr v s = .next t) :
    Ordinary s t :=
  finish_eq_next h ▸ .of_tick 3 (by simp) (by simp) (by simp) (by simp) (by simp) (by simp) (by simp [MemInv])
    (by simp [FlagNibbleZero]) (by simp)

theorem storeSp_ordinary {x : Word} {s t : State} (h : storeSp x s = .next t) : Ordinary s t := by
  obtain rfl := storeSp_eq_next h
  exact .of_tick 5 rfl rfl rfl rfl rfl rfl (fun hm => memInv_afterStore _ _ (memInv_afterStore _ _ hm)) id rfl

theorem loadSpHl_ordinary {s t : State} (h : loadSpHl s = .next t) : Ordinary s t :=
  finish_eq_next h ▸ .of_tick 2 rfl rfl rfl rfl rfl rfl id id rfl

theorem pushPair_ordinary {p : StackPair} {s t : State} (h : pushPair p s = .next t) : Ordinary s t := by
  obtain rfl := pushPair_eq_next h
  exact .of_tick 4 rfl rfl rfl rfl rfl rfl (memInv_pushedState _) id rfl

theorem popPair_ordinary {p : StackPair} {s t : State} (h : popPair p s = .next t) : Ordinary s t := by
  obtain ⟨l, g, -, rfl⟩ := popPair_eq_next h
  refine .of_tick 3 (by simp) (by simp) (by simp) (by simp) (by simp) (by simp) (by simp [MemInv]) (fun hf => ?_)
    (by simp)
  cases p with
  | af => exact flagNibble_and_mask _
  | _ => exact hf

theorem loadHlSpDisplaced_ordinary {e : Byte} {s t : State} (h : loadHlSpDisplaced e s = .next t) :
    Ordinary s t :=
  finish_eq_next h ▸ .of_tick 3 rfl rfl rfl rfl rfl rfl id (fun _ => flagNibble_setFlags _ _ _ _ _) rfl

theorem aluOperand_ordinary {op : AluOp} {x : Operand8} {s t : State} (h : aluOperand op x s = .next t) :
    Ordinary s t := by
  obtain ⟨v, -, rfl⟩ := aluOperand_eq_next h
  obtain ⟨u, hu⟩ := State.afterOperand_eq s x
  rw [hu]
  exact .of_tick _ rfl rfl rfl rfl rfl rfl id (fun _ => flagNibble_setFlags _ _ _ _ _) rfl

theorem aluImm_ordinary {op : AluOp} {v : Byte} {s t : State} (h : aluImm op v s = .next t) : Ordinary s t :=
  finish_eq_next h ▸ .of_tick 2 rfl rfl rfl rfl rfl rfl id (fun _ => flagNibble_setFlags _ _ _ _ _) rfl

theorem modifyWithFlags_ordinary {x : Operand8} {f : State → Byte → Result8} {n : Nat} {s t : State}
    (h : modifyWithFlags x f n s = .next t) : Ordinary s t := by
  obtain ⟨v, -, rfl⟩ := modifyWithFlags_eq_next h
  cases x with
  | reg r =>
    exact .of_tick n (State.setReg_ime ..) (State.setReg_halted ..) (State.setReg_stopped ..) (State.setReg_faulted ..)
      (State.setReg_regions ..) (State.setReg_clockBits ..) (memInv_setReg r _) (fun _ => flagNibble_setFlags _ _ _ _ _)
      (State.setReg_clk ..)
  | indHl =>
    exact .of_tick n rfl rfl rfl rfl rfl rfl (memInv_afterStore s.hl _) (fun _ => flagNibble_setFlags _ _ _ _ _) rfl

theorem adjustDecimal_ordinary {s t : State} (h : adjustDecimal s = .next t) : Ordinary s t :=
  finish_eq_next h ▸ .of_tick 1 rfl rfl rfl rfl rfl rfl id (fun _ => flagNibble_setFlags _ _ _ _ _) rfl

theorem complementA_ordinary {s t : State} (h : complementA s = .next t) : Ordinary s t :=
  finish_eq_next h ▸ .of_tick 1 rfl rfl rfl rfl rfl rfl id (fun _ => flagNibble_setFlags _ _ _ _ _) rfl

theorem setCarry_ordinary {s t : State} (h : setCarry s = .next t) : Ordinary s t :=
  finish_eq_next h ▸ .of_tick 1 rfl rfl rfl rfl rfl rfl id (fun _ => flagNibble_setFlags _ _ _ _ _) rfl

theorem complementCarry_ordinary {s t : State} (h : complementCarry s = .next t) : Ordinary s t :=
  finish_eq_next h ▸ .of_tick 1 rfl rfl rfl rfl rfl rfl id (fun _ => flagNibble_setFlags _ _ _ _ _) rfl

theorem addToHl_ordinary {rr : Reg16} {s t : State} (h : addToHl rr s = .next t) : Ordinary s t :=
  finish_eq_next h ▸ .of_tick 2 rfl rfl rfl rfl rfl rfl id (fun _ => flagNibble_setFlags _ _ _ _ _) rfl

theorem addToSp_ordinary {e : Byte} {s t : State} (h : addToSp e s = .next t) : Ordinary s t :=
  finish_eq_next h ▸ .of_tick 4 rfl rfl rfl rfl rfl rfl id (fun _ => flagNibble_setFlags _ _ _ _ _) rfl

theorem increment16_ordinary {rr : Reg16} {s t : State} (h : increment16 rr s = .next t) : Ordinary s t :=
  finish_eq_next h ▸ .of_tick 2 (by simp) (by simp) (by simp) (by simp) (by simp) (by simp) (by simp [MemInv])
    (by simp [FlagNibbleZero]) (by simp)

theorem decrement16_ordinary {rr : Reg16} {s t : State} (h : decrement16 rr s = .next t) : Ordinary s t :=
  finish_eq_next h ▸ .of_tick 2 (by simp) (by simp) (by simp) (by simp) (by simp) (by simp) (by simp [MemInv])
    (by simp [FlagNibbleZero]) (by simp)

theorem rotateA_ordinary {op : RotOp} {s t : State} (h : rotateA op s = .next t) : Ordinary s t :=
  finish_eq_next h ▸ .of_tick 1 rfl rfl rfl rfl rfl rfl id (fun _ => flagNibble_setFlags _ _ _ _ _) rfl

theorem testBit_ordinary {b : Nat} {x : Operand8} {s t : State} (h : testBit b x s = .next t) : Ordinary s t := by
  obtain ⟨v, -, rfl⟩ := testBit_eq_next h
  obtain ⟨u, hu⟩ := State.afterOperand_eq s x
  rw [hu]
  exact .of_tick _ rfl rfl rfl rfl rfl rfl id (fun _ => flagNibble_setFlags _ _ _ _ _) rfl

theorem modifyPlain_ordinary {x : Operand8} {f : Byte → Byte} {n : Nat} {s t : State}
    (h : modifyPlain x f n s = .next t) : Ordinary s t := by
  obtain ⟨v, -, rfl⟩ := modifyPlain_eq_next h
  cases x with
  | reg r =>
    exact .of_tick n (State.setReg_ime ..) (State.setReg_halted ..) (State.setReg_stopped ..) (State.setReg_faulted ..)
      (State.setReg_regions ..) (State.setReg_clockBits ..) (memInv_setReg r _) (flagNibble_setReg r _)
      (State.setReg_clk ..)
  | indHl => exact .of_tick n rfl rfl rfl rfl rfl rfl (memInv_afterStore s.hl _) id rfl

theorem jumpTo_ordinary {x : Word} {n : Nat} {s t : State} (h : jumpTo x n s = .next t) : Ordinary s t :=
  finish_eq_next h ▸ .of_tick n rfl rfl rfl rfl rfl rfl id id rfl

theorem jumpIf_ordinary {cc : Cond} {x : Word} {n k : Nat} {s t : State} (h : jumpIf cc x n k s = .next t) :
    Ordinary s t := by
  unfold jumpIf at h
  split at h
  · exact jumpTo_ordinary h
  · exact finish_ordinary h

theorem callTo_ordinary {x : Word} {n : Nat} {s t : State} (h : callTo x n s = .next t) : Ordinary s t := by
  obtain rfl := callTo_eq_next h
  exact .of_tick n rfl rfl rfl rfl rfl rfl (memInv_pushedState s.pc) id rfl

theorem callIf_ordinary {cc : Cond} {x : Word} {s t : State} (h : callIf cc x s = .next t) : Ordinary s t := by
  unfold callIf at h
  split at h
  · exact callTo_ordinary h
  · exact finish_ordinary h

theorem returnFrom_ordinary {n : Nat} {s t : State} (h : returnFrom n s = .next t) : Ordinary s t := by
  obtain ⟨l, g, -, rfl⟩ := returnFrom_eq_next h
  exact .of_tick n rfl rfl rfl rfl rfl rfl id id rfl

theorem returnIf_ordinary {cc : Cond} {s t : State} (h : returnIf cc s = .next t) : Ordinary s t := by
  unfold returnIf at h
  split at h
  · exact returnFrom_ordinary h
  · exact finish_ordinary h

theorem extendedOperation_ordinary {op : Byte} {s t : State} (h : extendedOperation op s = .next t) :
    Ordinary s t := by
  unfold extendedOperation at h
  simp only [] at h
  split at h
  · exact modifyWithFlags_ordinary h
  · exact testBit_ordinary h
  · exact modifyPlain_ordinary h
  · exact modifyPlain_ordinary h

end Sys2Proof.Machine
end

