-- ==== Sys2Proof/Laws/Shapes.lean ====
section
/-! SUPPORT. The 512 instructions sorted into the families of the views of Syntax.lean, so that a statement about every
instruction is proved by one case per family. -/

namespace Sys2Proof

/-- Every instruction has one of these shapes (`Instr.shape`): an instruction of a view, or one that stands alone. -/
inductive Shape : Instr → Prop where
  | ldRegReg (dst src : Reg8) : Shape (Instr.ldRegReg dst src)
  | ldRegImm (dst : Reg8) (v : Byte) : Shape (Instr.ldRegImm dst v)
  | ldRegIndHl (dst : Reg8) : Shape (Instr.ldRegIndHl dst)
  | ldIndHlReg (src : Reg8) : Shape (Instr.ldIndHlReg src)
  | ldReg16Imm (rr : Reg16) (v : Word) : Shape (Instr.ldReg16Imm rr v)
  | push (p : StackPair) : Shape (Instr.push p)
  | pop (p : StackPair) : Shape (Instr.pop p)
  | alu (op : AluOp) (x : Operand8) : Shape (Instr.alu op x)
  | aluImm (op : AluOp) (v : Byte) : Shape (Instr.aluImm op v)
  | inc8 (x : Operand8) : Shape (Instr.inc8 x)
  | dec8 (x : Operand8) : Shape (Instr.dec8 x)
  | incReg16 (rr : Reg16) : Shape (Instr.incReg16 rr)
  | decReg16 (rr : Reg16) : Shape (Instr.decReg16 rr)
  | addHl (rr : Reg16) : Shape (Instr.addHl rr)
  | rot (op : RotOp) (x : Operand8) : Shape (Instr.rot op x)
  | bit (n : Fin 8) (x : Operand8) : Shape (Instr.bit n x)
  | res (n : Fin 8) (x : Operand8) : Shape (Instr.res n x)
  | set (n : Fin 8) (x : Operand8) : Shape (Instr.set n x)
  | jpCond (cc : Cond) (a : Word) : Shape (Instr.jpCond cc a)
  | jrCond (cc : Cond) (e : Byte) : Shape (Instr.jrCond cc e)
  | callCond (cc : Cond) (a : Word) : Shape (Instr.callCond cc a)
  | retCond (cc : Cond) : Shape (Instr.retCond cc)
  | rst (y : Fin 8) : Shape (Instr.rst y)
  | unresolved (op : Byte) (i : Instr) (h : (op, i) ∈ Instr.unresolved) : Shape i
  | nop : Shape .nop
  | ldIndBcA : Shape .ldIndBcA
  | rlca : Shape .rlca
  | ldIndA16Sp (v : Word) : Shape (.ldIndA16Sp v)
  | ldAIndBc : Shape .ldAIndBc
  | rrca : Shape .rrca
  | stop (v : Byte) : Shape (.stop v)
  | ldIndDeA : Shape .ldIndDeA
  | rla : Shape .rla
  | jrE8 (v : Byte) : Shape (.jrE8 v)
  | ldAIndDe : Shape .ldAIndDe
  | rra : Shape .rra
  | ldIndHlIncA : Shape .ldIndHlIncA
  | daa : Shape .daa
  | ldAIndHlInc : Shape .ldAIndHlInc
  | cpl : Shape .cpl
  | ldIndHlDecA : Shape .ldIndHlDecA
  | ldIndHlD8 (v : Byte) : Shape (.ldIndHlD8 v)
  | scf : Shape .scf
  | ldAIndHlDec : Shape .ldAIndHlDec
  | ccf : Shape .ccf
  | halt : Shape .halt
  | jpA16 (v : Word) : Shape (.jpA16 v)
  | ret : Shape .ret
  | prefixCb : Shape .prefixCb
  | callA16 (v : Word) : Shape (.callA16 v)
  | reti : Shape .reti
  | ldhIndA8A (v : Byte) : Shape (.ldhIndA8A v)
  | ldhIndCA : Shape .ldhIndCA
  | addSpE8 (v : Byte) : Shape (.addSpE8 v)
  | jpHl : Shape .jpHl
  | ldIndA16A (v : Word) : Shape (.ldIndA16A v)
  | ldhAIndA8 (v : Byte) : Shape (.ldhAIndA8 v)
  | ldhAIndC : Shape .ldhAIndC
  | di : Shape .di
  | ldHlSpE8 (v : Byte) : Shape (.ldHlSpE8 v)
  | ldSpHl : Shape .ldSpHl
  | ldAIndA16 (v : Word) : Shape (.ldAIndA16 v)
  | ei : Shape .ei

/-- Every instruction has a shape. -/
theorem Instr.shape : ∀ i : Instr, Shape i
  | .nop => .nop
  | .ldBcD16 v => .ldReg16Imm .bc v
  | .ldIndBcA => .ldIndBcA
  | .incBc => .incReg16 .bc
  | .incB => .inc8 (.reg .b)
  | .decB => .dec8 (.reg .b)
  | .ldBD8 v => .ldRegImm .b v
  | .rlca => .rlca
  | .ldIndA16Sp v => .ldIndA16Sp v
  | .addHlBc => .addHl .bc
  | .ldAIndBc => .ldAIndBc
  | .decBc => .decReg16 .bc
  | .incC => .inc8 (.reg .c)
  | .decC => .dec8 (.reg .c)
  | .ldCD8 v => .ldRegImm .c v
  | .rrca => .rrca
  | .stop v => .stop v
  | .ldDeD16 v => .ldReg16Imm .de v
  | .ldIndDeA => .ldIndDeA
  | .incDe => .incReg16 .de
  | .incD => .inc8 (.reg .d)
  | .decD => .dec8 (.reg .d)
  | .ldDD8 v => .ldRegImm .d v
  | .rla => .rla
  | .jrE8 v => .jrE8 v
  | .addHlDe => .addHl .de
  | .ldAIndDe => .ldAIndDe
  | .decDe => .decReg16 .de
  | .incE => .inc8 (.reg .e)
  | .decE => .dec8 (.reg .e)
  | .ldED8 v => .ldRegImm .e v
  | .rra => .rra
  | .jrNzE8 v => .jrCond .nz v
  | .ldHlD16 v => .ldReg16Imm .hl v
  | .ldIndHlIncA => .ldIndHlIncA
  | .incHl => .incReg16 .hl
  | .incH => .inc8 (.reg .h)
  | .decH => .dec8 (.reg .h)
  | .ldHD8 v => .ldRegImm .h v
  | .daa => .daa
  | .jrZE8 v => .jrCond .z v
  | .addHlHl => .addHl .hl
  | .ldAIndHlInc => .ldAIndHlInc
  | .decHl => .decReg16 .hl
  | .incL => .inc8 (.reg .l)
  | .decL => .dec8 (.reg .l)
  | .ldLD8 v => .ldRegImm .l v
  | .cpl => .cpl
  | .jrNcE8 v => .jrCond .nc v
  | .ldSpD16 v => .ldReg16Imm .sp v
  | .ldIndHlDecA => .ldIndHlDecA
  | .incSp => .incReg16 .sp
  | .incIndHl => .inc8 .indHl
  | .decIndHl => .dec8 .indHl
  | .ldIndHlD8 v => .ldIndHlD8 v
  | .scf => .scf
  | .jrCE8 v => .jrCond .c v
  | .addHlSp => .addHl .sp
  | .ldAIndHlDec => .ldAIndHlDec
  | .decSp => .decReg16 .sp
  | .incA => .inc8 (.reg .a)
  | .decA => .dec8 (.reg .a)
  | .ldAD8 v => .ldRegImm .a v
  | .ccf => .ccf
  | .ldBB => .ldRegReg .b .b
  | .ldBC => .ldRegReg .b .c
  | .ldBD => .ldRegReg .b .d
  | .ldBE => .ldRegReg .b .e
  | .ldBH => .ldRegReg .b .h
  | .ldBL => .ldRegReg .b .l
  | .ldBIndHl => .ldRegIndHl .b
  | .ldBA => .ldRegReg .b .a
  | .ldCB => .ldRegReg .c .b
  | .ldCC => .ldRegReg .c .c
  | .ldCD => .ldRegReg .c .d
  | .ldCE => .ldRegReg .c .e
  | .ldCH => .ldRegReg .c .h
  | .ldCL => .ldRegReg .c .l
  | .ldCIndHl => .ldRegIndHl .c
  | .ldCA => .ldRegReg .c .a
  | .ldDB => .ldRegReg .d .b
  | .ldDC => .ldRegReg .d .c
  | .ldDD => .ldRegReg .d .d
  | .ldDE => .ldRegReg .d .e
  | .ldDH => .ldRegReg .d .h
  | .ldDL => .ldRegReg .d .l
  | .ldDIndHl => .ldRegIndHl .d
  | .ldDA => .ldRegReg .d .a
  | .ldEB => .ldRegReg .e .b
  | .ldEC => .ldRegReg .e .c
  | .ldED => .ldRegReg .e .d
  | .ldEE => .ldRegReg .e .e
  | .ldEH => .ldRegReg .e .h
  | .ldEL => .ldRegReg .e .l
  | .ldEIndHl => .ldRegIndHl .e
  | .ldEA => .ldRegReg .e .a
  | .ldHB => .ldRegReg .h .b
  | .ldHC => .ldRegReg .h .c
  | .ldHD => .ldRegReg .h .d
  | .ldHE => .ldRegReg .h .e
  | .ldHH => .ldRegReg .h .h
  | .ldHL => .ldRegReg .h .l
  | .ldHIndHl => .ldRegIndHl .h
  | .ldHA => .ldRegReg .h .a
  | .ldLB => .ldRegReg .l .b
  | .ldLC => .ldRegReg .l .c
  | .ldLD => .ldRegReg .l .d
  | .ldLE => .ldRegReg .l .e
  | .ldLH => .ldRegReg .l .h
  | .ldLL => .ldRegReg .l .l
  | .ldLIndHl => .ldRegIndHl .l
  | .ldLA => .ldRegReg .l .a
  | .ldIndHlB => .ldIndHlReg .b
  | .ldIndHlC => .ldIndHlReg .c
  | .ldIndHlD => .ldIndHlReg .d
  | .ldIndHlE => .ldIndHlReg .e
  | .ldIndHlH => .ldIndHlReg .h
  | .ldIndHlL => .ldIndHlReg .l
  | .halt => .halt
  | .ldIndHlA => .ldIndHlReg .a
  | .ldAB => .ldRegReg .a .b
  | .ldAC => .ldRegReg .a .c
  | .ldAD => .ldRegReg .a .d
  | .ldAE => .ldRegReg .a .e
  | .ldAH => .ldRegReg .a .h
  | .ldAL => .ldRegReg .a .l
  | .ldAIndHl => .ldRegIndHl .a
  | .ldAA => .ldRegReg .a .a
  | .addAB => .alu .add (.reg .b)
  | .addAC => .alu .add (.reg .c)
  | .addAD => .alu .add (.reg .d)
  | .addAE => .alu .add (.reg .e)
  | .addAH => .alu .add (.reg .h)
  | .addAL => .alu .add (.reg .l)
  | .addAIndHl => .alu .add .indHl
  | .addAA => .alu .add (.reg .a)
  | .adcAB => .alu .adc (.reg .b)
  | .adcAC => .alu .adc (.reg .c)
  | .adcAD => .alu .adc (.reg .d)
  | .adcAE => .alu .adc (.reg .e)
  | .adcAH => .alu .adc (.reg .h)
  | .adcAL => .alu .adc (.reg .l)
  | .adcAIndHl => .alu .adc .indHl
  | .adcAA => .alu .adc (.reg .a)
  | .subAB => .alu .sub (.reg .b)
  | .subAC => .alu .sub (.reg .c)
  | .subAD => .alu .sub (.reg .d)
  | .subAE => .alu .sub (.reg .e)
  | .subAH => .alu .sub (.reg .h)
  | .subAL => .alu .sub (.reg .l)
  | .subAIndHl => .alu .sub .indHl
  | .subAA => .alu .sub (.reg .a)
  | .sbcAB => .alu .sbc (.reg .b)
  | .sbcAC => .alu .sbc (.reg .c)
  | .sbcAD => .alu .sbc (.reg .d)
  | .sbcAE => .alu .sbc (.reg .e)
  | .sbcAH => .alu .sbc (.reg .h)
  | .sbcAL => .alu .sbc (.reg .l)
  | .sbcAIndHl => .alu .sbc .indHl
  | .sbcAA => .alu .sbc (.reg .a)
  | .andAB => .alu .and (.reg .b)
  | .andAC => .alu .and (.reg .c)
  | .andAD => .alu .and (.reg .d)
  | .andAE => .alu .and (.reg .e)
  | .andAH => .alu .and (.reg .h)
  | .andAL => .alu .and (.reg .l)
  | .andAIndHl => .alu .and .indHl
  | .andAA => .alu .and (.reg .a)
  | .xorAB => .alu .xor (.reg .b)
  | .xorAC => .alu .xor (.reg .c)
  | .xorAD => .alu .xor (.reg .d)
  | .xorAE => .alu .xor (.reg .e)
  | .xorAH => .alu .xor (.reg .h)
  | .xorAL => .alu .xor (.reg .l)
  | .xorAIndHl => .alu .xor .indHl
  | .xorAA => .alu .xor (.reg .a)
  | .orAB => .alu .or (.reg .b)
  | .orAC => .alu .or (.reg .c)
  | .orAD => .alu .or (.reg .d)
  | .orAE => .alu .or (.reg .e)
  | .orAH => .alu .or (.reg .h)
  | .orAL => .alu .or (.reg .l)
  | .orAIndHl => .alu .or .indHl
  | .orAA => .alu .or (.reg .a)
  | .cpAB => .alu .cp (.reg .b)
  | .cpAC => .alu .cp (.reg .c)
  | .cpAD => .alu .cp (.reg .d)
  | .cpAE => .alu .cp (.reg .e)
  | .cpAH => .alu .cp (.reg .h)
  | .cpAL => .alu .cp (.reg .l)
  | .cpAIndHl => .alu .cp .indHl
  | .cpAA => .alu .cp (.reg .a)
  | .retNz => .retCond .nz
  | .popBc => .pop .bc
  | .jpNzA16 v => .jpCond .nz v
  | .jpA16 v => .jpA16 v
  | .callNzA16 v => .callCond .nz v
  | .pushBc => .push .bc
  | .addAD8 v => .aluImm .add v
  | .rst00 => .rst 0
  | .retZ => .retCond .z
  | .ret => .ret
  | .jpZA16 v => .jpCond .z v
  | .prefixCb => .prefixCb
  | .callZA16 v => .callCond .z v
  | .callA16 v => .callA16 v
  | .adcAD8 v => .aluImm .adc v
  | .rst08 => .rst 1
  | .retNc => .retCond .nc
  | .popDe => .pop .de
  | .jpNcA16 v => .jpCond .nc v
  | .illegalD3 => .unresolved 0xD3#8 _ (by simp [Instr.unresolved])
  | .callNcA16 v => .callCond .nc v
  | .pushDe => .push .de
  | .subAD8 v => .aluImm .sub v
  | .rst10 => .rst 2
  | .retC => .retCond .c
  | .reti => .reti
  | .jpCA16 v => .jpCond .c v
  | .illegalDB => .unresolved 0xDB#8 _ (by simp [Instr.unresolved])
  | .callCA16 v => .callCond .c v
  | .illegalDD => .unresolved 0xDD#8 _ (by simp [Instr.unresolved])
  | .sbcAD8 v => .aluImm .sbc v
  | .rst18 => .rst 3
  | .ldhIndA8A v => .ldhIndA8A v
  | .popHl => .pop .hl
  | .ldhIndCA => .ldhIndCA
  | .illegalE3 => .unresolved 0xE3#8 _ (by simp [Instr.unresolved])
  | .illegalE4 => .unresolved 0xE4#8 _ (by simp [Instr.unresolved])
  | .pushHl => .push .hl
  | .andAD8 v => .aluImm .and v
  | .rst20 => .rst 4
  | .addSpE8 v => .addSpE8 v
  | .jpHl => .jpHl
  | .ldIndA16A v => .ldIndA16A v
  | .illegalEB => .unresolved 0xEB#8 _ (by simp [Instr.unresolved])
  | .illegalEC => .unresolved 0xEC#8 _ (by simp [Instr.unresolved])
  | .illegalED => .unresolved 0xED#8 _ (by simp [Instr.unresolved])
  | .xorAD8 v => .aluImm .xor v
  | .rst28 => .rst 5
  | .ldhAIndA8 v => .ldhAIndA8 v
  | .popAf => .pop .af
  | .ldhAIndC => .ldhAIndC
  | .di => .di
  | .illegalF4 => .unresolved 0xF4#8 _ (by simp [Instr.unresolved])
  | .pushAf => .push .af
  | .orAD8 v => .aluImm .or v
  | .rst30 => .rst 6
  | .ldHlSpE8 v => .ldHlSpE8 v
  | .ldSpHl => .ldSpHl
  | .ldAIndA16 v => .ldAIndA16 v
  | .ei => .ei
  | .illegalFC => .unresolved 0xFC#8 _ (by simp [Instr.unresolved])
  | .illegalFD => .unresolved 0xFD#8 _ (by simp [Instr.unresolved])
  | .cpAD8 v => .aluImm .cp v
  | .rst38 => .rst 7
  | .rlcB => .rot .rlc (.reg .b)
  | .rlcC => .rot .rlc (.reg .c)
  | .rlcD => .rot .rlc (.reg .d)
  | .rlcE => .rot .rlc (.reg .e)
  | .rlcH => .rot .rlc (.reg .h)
  | .rlcL => .rot .rlc (.reg .l)
  | .rlcIndHl => .rot .rlc .indHl
  | .rlcA => .rot .rlc (.reg .a)
  | .rrcB => .rot .rrc (.reg .b)
  | .rrcC => .rot .rrc (.reg .c)
  | .rrcD => .rot .rrc (.reg .d)
  | .rrcE => .rot .rrc (.reg .e)
  | .rrcH => .rot .rrc (.reg .h)
  | .rrcL => .rot .rrc (.reg .l)
  | .rrcIndHl => .rot .rrc .indHl
  | .rrcA => .rot .rrc (.reg .a)
  | .rlB => .rot .rl (.reg .b)
  | .rlC => .rot .rl (.reg .c)
  | .rlD => .rot .rl (.reg .d)
  | .rlE => .rot .rl (.reg .e)
  | .rlH => .rot .rl (.reg .h)
  | .rlL => .rot .rl (.reg .l)
  | .rlIndHl => .rot .rl .indHl
  | .rlA => .rot .rl (.reg .a)
  | .rrB => .rot .rr (.reg .b)
  | .rrC => .rot .rr (.reg .c)
  | .rrD => .rot .rr (.reg .d)
  | .rrE => .rot .rr (.reg .e)
  | .rrH => .rot .rr (.reg .h)
  | .rrL => .rot .rr (.reg .l)
  | .rrIndHl => .rot .rr .indHl
  | .rrA => .rot .rr (.reg .a)
  | .slaB => .rot .sla (.reg .b)
  | .slaC => .rot .sla (.reg .c)
  | .slaD => .rot .sla (.reg .d)
  | .slaE => .rot .sla (.reg .e)
  | .slaH => .rot .sla (.reg .h)
  | .slaL => .rot .sla (.reg .l)
  | .slaIndHl => .rot .sla .indHl
  | .slaA => .rot .sla (.reg .a)
  | .sraB => .rot .sra (.reg .b)
  | .sraC => .rot .sra (.reg .c)
  | .sraD => .rot .sra (.reg .d)
  | .sraE => .rot .sra (.reg .e)
  | .sraH => .rot .sra (.reg .h)
  | .sraL => .rot .sra (.reg .l)
  | .sraIndHl => .rot .sra .indHl
  | .sraA => .rot .sra (.reg .a)
  | .swapB => .rot .swap (.reg .b)
  | .swapC => .rot .swap (.reg .c)
  | .swapD => .rot .swap (.reg .d)
  | .swapE => .rot .swap (.reg .e)
  | .swapH => .rot .swap (.reg .h)
  | .swapL => .rot .swap (.reg .l)
  | .swapIndHl => .rot .swap .indHl
  | .swapA => .rot .swap (.reg .a)
  | .srlB => .rot .srl (.reg .b)
  | .srlC => .rot .srl (.reg .c)
  | .srlD => .rot .srl (.reg .d)
  | .srlE => .rot .srl (.reg .e)
  | .srlH => .rot .srl (.reg .h)
  | .srlL => .rot .srl (.reg .l)
  | .srlIndHl => .rot .srl .indHl
  | .srlA => .rot .srl (.reg .a)
  | .bit0B => .bit 0 (.reg .b)
  | .bit0C => .bit 0 (.reg .c)
  | .bit0D => .bit 0 (.reg .d)
  | .bit0E => .bit 0 (.reg .e)
  | .bit0H => .bit 0 (.reg .h)
  | .bit0L => .bit 0 (.reg .l)
  | .bit0IndHl => .bit 0 .indHl
  | .bit0A => .bit 0 (.reg .a)
  | .bit1B => .bit 1 (.reg .b)
  | .bit1C => .bit 1 (.reg .c)
  | .bit1D => .bit 1 (.reg .d)
  | .bit1E => .bit 1 (.reg .e)
  | .bit1H => .bit 1 (.reg .h)
  | .bit1L => .bit 1 (.reg .l)
  | .bit1IndHl => .bit 1 .indHl
  | .bit1A => .bit 1 (.reg .a)
  | .bit2B => .bit 2 (.reg .b)
  | .bit2C => .bit 2 (.reg .c)
  | .bit2D => .bit 2 (.reg .d)
  | .bit2E => .bit 2 (.reg .e)
  | .bit2H => .bit 2 (.reg .h)
  | .bit2L => .bit 2 (.reg .l)
  | .bit2IndHl => .bit 2 .indHl
  | .bit2A => .bit 2 (.reg .a)
  | .bit3B => .bit 3 (.reg .b)
  | .bit3C => .bit 3 (.reg .c)
  | .bit3D => .bit 3 (.reg .d)
  | .bit3E => .bit 3 (.reg .e)
  | .bit3H => .bit 3 (.reg .h)
  | .bit3L => .bit 3 (.reg .l)
  | .bit3IndHl => .bit 3 .indHl
  | .bit3A => .bit 3 (.reg .a)
  | .bit4B => .bit 4 (.reg .b)
  | .bit4C => .bit 4 (.reg .c)
  | .bit4D => .bit 4 (.reg .d)
  | .bit4E => .bit 4 (.reg .e)
  | .bit4H => .bit 4 (.reg .h)
  | .bit4L => .bit 4 (.reg .l)
  | .bit4IndHl => .bit 4 .indHl
  | .bit4A => .bit 4 (.reg .a)
  | .bit5B => .bit 5 (.reg .b)
  | .bit5C => .bit 5 (.reg .c)
  | .bit5D => .bit 5 (.reg .d)
  | .bit5E => .bit 5 (.reg .e)
  | .bit5H => .bit 5 (.reg .h)
  | .bit5L => .bit 5 (.reg .l)
  | .bit5IndHl => .bit 5 .indHl
  | .bit5A => .bit 5 (.reg .a)
  | .bit6B => .bit 6 (.reg .b)
  | .bit6C => .bit 6 (.reg .c)
  | .bit6D => .bit 6 (.reg .d)
  | .bit6E => .bit 6 (.reg .e)
  | .bit6H => .bit 6 (.reg .h)
  | .bit6L => .bit 6 (.reg .l)
  | .bit6IndHl => .bit 6 .indHl
  | .bit6A => .bit 6 (.reg .a)
  | .bit7B => .bit 7 (.reg .b)
  | .bit7C => .bit 7 (.reg .c)
  | .bit7D => .bit 7 (.reg .d)
  | .bit7E => .bit 7 (.reg .e)
  | .bit7H => .bit 7 (.reg .h)
  | .bit7L => .bit 7 (.reg .l)
  | .bit7IndHl => .bit 7 .indHl
  | .bit7A => .bit 7 (.reg .a)
  | .res0B => .res 0 (.reg .b)
  | .res0C => .res 0 (.reg .c)
  | .res0D => .res 0 (.reg .d)
  | .res0E => .res 0 (.reg .e)
  | .res0H => .res 0 (.reg .h)
  | .res0L => .res 0 (.reg .l)
  | .res0IndHl => .res 0 .indHl
  | .res0A => .res 0 (.reg .a)
  | .res1B => .res 1 (.reg .b)
  | .res1C => .res 1 (.reg .c)
  | .res1D => .res 1 (.reg .d)
  | .res1E => .res 1 (.reg .e)
  | .res1H => .res 1 (.reg .h)
  | .res1L => .res 1 (.reg .l)
  | .res1IndHl => .res 1 .indHl
  | .res1A => .res 1 (.reg .a)
  | .res2B => .res 2 (.reg .b)
  | .res2C => .res 2 (.reg .c)
  | .res2D => .res 2 (.reg .d)
  | .res2E => .res 2 (.reg .e)
  | .res2H => .res 2 (.reg .h)
  | .res2L => .res 2 (.reg .l)
  | .res2IndHl => .res 2 .indHl
  | .res2A => .res 2 (.reg .a)
  | .res3B => .res 3 (.reg .b)
  | .res3C => .res 3 (.reg .c)
  | .res3D => .res 3 (.reg .d)
  | .res3E => .res 3 (.reg .e)
  | .res3H => .res 3 (.reg .h)
  | .res3L => .res 3 (.reg .l)
  | .res3IndHl => .res 3 .indHl
  | .res3A => .res 3 (.reg .a)
  | .res4B => .res 4 (.reg .b)
  | .res4C => .res 4 (.reg .c)
  | .res4D => .res 4 (.reg .d)
  | .res4E => .res 4 (.reg .e)
  | .res4H => .res 4 (.reg .h)
  | .res4L => .res 4 (.reg .l)
  | .res4IndHl => .res 4 .indHl
  | .res4A => .res 4 (.reg .a)
  | .res5B => .res 5 (.reg .b)
  | .res5C => .res 5 (.reg .c)
  | .res5D => .res 5 (.reg .d)
  | .res5E => .res 5 (.reg .e)
  | .res5H => .res 5 (.reg .h)
  | .res5L => .res 5 (.reg .l)
  | .res5IndHl => .res 5 .indHl
  | .res5A => .res 5 (.reg .a)
  | .res6B => .res 6 (.reg .b)
  | .res6C => .res 6 (.reg .c)
  | .res6D => .res 6 (.reg .d)
  | .res6E => .res 6 (.reg .e)
  | .res6H => .res 6 (.reg .h)
  | .res6L => .res 6 (.reg .l)
  | .res6IndHl => .res 6 .indHl
  | .res6A => .res 6 (.reg .a)
  | .res7B => .res 7 (.reg .b)
  | .res7C => .res 7 (.reg .c)
  | .res7D => .res 7 (.reg .d)
  | .res7E => .res 7 (.reg .e)
  | .res7H => .res 7 (.reg .h)
  | .res7L => .res 7 (.reg .l)
  | .res7IndHl => .res 7 .indHl
  | .res7A => .res 7 (.reg .a)
  | .set0B => .set 0 (.reg .b)
  | .set0C => .set 0 (.reg .c)
  | .set0D => .set 0 (.reg .d)
  | .set0E => .set 0 (.reg .e)
  | .set0H => .set 0 (.reg .h)
  | .set0L => .set 0 (.reg .l)
  | .set0IndHl => .set 0 .indHl
  | .set0A => .set 0 (.reg .a)
  | .set1B => .set 1 (.reg .b)
  | .set1C => .set 1 (.reg .c)
  | .set1D => .set 1 (.reg .d)
  | .set1E => .set 1 (.reg .e)
  | .set1H => .set 1 (.reg .h)
  | .set1L => .set 1 (.reg .l)
  | .set1IndHl => .set 1 .indHl
  | .set1A => .set 1 (.reg .a)
  | .set2B => .set 2 (.reg .b)
  | .set2C => .set 2 (.reg .c)
  | .set2D => .set 2 (.reg .d)
  | .set2E => .set 2 (.reg .e)
  | .set2H => .set 2 (.reg .h)
  | .set2L => .set 2 (.reg .l)
  | .set2IndHl => .set 2 .indHl
  | .set2A => .set 2 (.reg .a)
  | .set3B => .set 3 (.reg .b)
  | .set3C => .set 3 (.reg .c)
  | .set3D => .set 3 (.reg .d)
  | .set3E => .set 3 (.reg .e)
  | .set3H => .set 3 (.reg .h)
  | .set3L => .set 3 (.reg .l)
  | .set3IndHl => .set 3 .indHl
  | .set3A => .set 3 (.reg .a)
  | .set4B => .set 4 (.reg .b)
  | .set4C => .set 4 (.reg .c)
  | .set4D => .set 4 (.reg .d)
  | .set4E => .set 4 (.reg .e)
  | .set4H => .set 4 (.reg .h)
  | .set4L => .set 4 (.reg .l)
  | .set4IndHl => .set 4 .indHl
  | .set4A => .set 4 (.reg .a)
  | .set5B => .set 5 (.reg .b)
  | .set5C => .set 5 (.reg .c)
  | .set5D => .set 5 (.reg .d)
  | .set5E => .set 5 (.reg .e)
  | .set5H => .set 5 (.reg .h)
  | .set5L => .set 5 (.reg .l)
  | .set5IndHl => .set 5 .indHl
  | .set5A => .set 5 (.reg .a)
  | .set6B => .set 6 (.reg .b)
  | .set6C => .set 6 (.reg .c)
  | .set6D => .set 6 (.reg .d)
  | .set6E => .set 6 (.reg .e)
  | .set6H => .set 6 (.reg .h)
  | .set6L => .set 6 (.reg .l)
  | .set6IndHl => .set 6 .indHl
  | .set6A => .set 6 (.reg .a)
  | .set7B => .set 7 (.reg .b)
  | .set7C => .set 7 (.reg .c)
  | .set7D => .set 7 (.reg .d)
  | .set7E => .set 7 (.reg .e)
  | .set7H => .set 7 (.reg .h)
  | .set7L => .set 7 (.reg .l)
  | .set7IndHl => .set 7 .indHl
  | .set7A => .set 7 (.reg .a)

end Sys2Proof
end

