-- ==== Sys2Proof/Laws/Views.lean ====
section
/-! SUPPORT. What `exec` answers on each family of instructions seen through its operand codes (the views of
Syntax.lean): one shared operation of the family. -/

namespace Sys2Proof.Machine

theorem exec_ldRegReg (dst src : Reg8) (s : State) : exec (.ldRegReg dst src) s = ldRegReg dst src s := by
  cases dst <;> cases src <;> rfl

theorem exec_ldRegImm (dst : Reg8) (v : Byte) (s : State) : exec (.ldRegImm dst v) s = ldRegImm dst v s := by
  cases dst <;> rfl

theorem exec_ldRegIndHl (dst : Reg8) (s : State) : exec (.ldRegIndHl dst) s = loadFrom dst s.hl 2 s := by
  cases dst <;> rfl

theorem exec_ldIndHlReg (src : Reg8) (s : State) :
    exec (.ldIndHlReg src) s = storeTo s.hl (s.reg src) 2 s := by
  cases src <;> rfl

theorem exec_ldReg16Imm (rr : Reg16) (v : Word) (s : State) : exec (.ldReg16Imm rr v) s = ldReg16Imm rr v s := by
  cases rr <;> rfl

theorem exec_push (p : StackPair) (s : State) : exec (.push p) s = pushPair p s := by cases p <;> rfl

theorem exec_pop (p : StackPair) (s : State) : exec (.pop p) s = popPair p s := by cases p <;> rfl

theorem exec_alu (op : AluOp) (x : Operand8) (s : State) : exec (.alu op x) s = aluOperand op x s := by
  cases x with
  | reg r => cases op <;> cases r <;> rfl
  | indHl => cases op <;> rfl

theorem exec_aluImm (op : AluOp) (v : Byte) (s : State) : exec (.aluImm op v) s = aluImm op v s := by
  cases op <;> rfl

theorem exec_inc8 (x : Operand8) (s : State) : exec (.inc8 x) s = increment x s := by
  cases x with
  | reg r => cases r <;> rfl
  | indHl => rfl

theorem exec_dec8 (x : Operand8) (s : State) : exec (.dec8 x) s = decrement x s := by
  cases x with
  | reg r => cases r <;> rfl
  | indHl => rfl

theorem exec_addHl (rr : Reg16) (s : State) : exec (.addHl rr) s = addToHl rr s := by cases rr <;> rfl

theorem exec_incReg16 (rr : Reg16) (s : State) : exec (.incReg16 rr) s = increment16 rr s := by cases rr <;> rfl

theorem exec_decReg16 (rr : Reg16) (s : State) : exec (.decReg16 rr) s = decrement16 rr s := by cases rr <;> rfl

theorem exec_rot (op : RotOp) (x : Operand8) (s : State) : exec (.rot op x) s = rotateOperand op x s := by
  cases x with
  | reg r => cases op <;> cases r <;> rfl
  | indHl => cases op <;> rfl

theorem exec_bit (b : Fin 8) (x : Operand8) (s : State) : exec (.bit b x) s = testBit b.val x s := by
  cases x with
  | reg r => revert b; cases r <;> (intro b; match b with
      | 0 | 1 | 2 | 3 | 4 | 5 | 6 | 7 => rfl)
  | indHl => match b with
      | 0 | 1 | 2 | 3 | 4 | 5 | 6 | 7 => rfl

theorem exec_res (b : Fin 8) (x : Operand8) (s : State) : exec (.res b x) s = resetBit b.val x s := by
  cases x with
  | reg r => revert b; cases r <;> (intro b; match b with
      | 0 | 1 | 2 | 3 | 4 | 5 | 6 | 7 => rfl)
  | indHl => match b with
      | 0 | 1 | 2 | 3 | 4 | 5 | 6 | 7 => rfl

theorem exec_set (b : Fin 8) (x : Operand8) (s : State) : exec (.set b x) s = setBitOf b.val x s := by
  cases x with
  | reg r => revert b; cases r <;> (intro b; match b with
      | 0 | 1 | 2 | 3 | 4 | 5 | 6 | 7 => rfl)
  | indHl => match b with
      | 0 | 1 | 2 | 3 | 4 | 5 | 6 | 7 => rfl

theorem exec_jpCond (cc : Cond) (x : Word) (s : State) : exec (.jpCond cc x) s = jumpIf cc x 4 3 s := by
  cases cc <;> rfl

theorem exec_jrCond (cc : Cond) (e : Byte) (s : State) :
    exec (.jrCond cc e) s = jumpIf cc (relativeTarget e s) 3 2 s := by
  cases cc <;> rfl

theorem exec_callCond (cc : Cond) (x : Word) (s : State) : exec (.callCond cc x) s = callIf cc x s := by
  cases cc <;> rfl

theorem exec_retCond (cc : Cond) (s : State) : exec (.retCond cc) s = returnIf cc s := by cases cc <;> rfl

theorem exec_rst (y : Fin 8) (s : State) : exec (.rst y) s = callTo (BitVec.ofNat 16 (8 * y.val)) 4 s := by
  match y with
  | 0 | 1 | 2 | 3 | 4 | 5 | 6 | 7 => rfl

end Sys2Proof.Machine
end

