-- ==== Sys2Proof/Laws/Exec.lean ====
section
/-! SUPPORT. What every completed instruction leaves alone, by one case per shape of instruction. -/

namespace Sys2Proof.Machine

/-- An unresolved opcode ends at once in its fault (R226). -/
theorem exec_unresolved {op : Byte} {i : Instr} (h : (op, i) ∈ Instr.unresolved) (s : State) :
    exec i s = .fault (.unresolvedOpcode op (s.pc - 1#16) { s with faulted := true }) := by
  simp only [Instr.unresolved, List.mem_cons, Prod.mk.injEq, List.not_mem_nil, or_false] at h
  repeat (rcases h with ⟨rfl, rfl⟩ | h; · rfl)
  obtain ⟨rfl, rfl⟩ := h
  rfl

/-- Every completed instruction but HALT, STOP, DI, EI and RETI is ordinary. -/
theorem exec_ordinary {i : Instr} {s t : State} (h : exec i s = .next t) (h1 : i ≠ .halt) (h2 : ∀ v, i ≠ .stop v)
    (h3 : i ≠ .di) (h4 : i ≠ .ei) (h5 : i ≠ .reti) : Ordinary s t := by
  cases i.shape with
  | ldRegReg dst src => exact ldRegReg_ordinary (exec_ldRegReg dst src s ▸ h)
  | ldRegImm dst v => exact ldRegImm_ordinary (exec_ldRegImm dst v s ▸ h)
  | ldRegIndHl dst => exact loadFrom_ordinary (exec_ldRegIndHl dst s ▸ h)
  | ldIndHlReg dst => exact storeTo_ordinary (exec_ldIndHlReg dst s ▸ h)
  | ldReg16Imm dst v => exact ldReg16Imm_ordinary (exec_ldReg16Imm dst v s ▸ h)
  | push p => exact pushPair_ordinary (exec_push p s ▸ h)
  | pop p => exact popPair_ordinary (exec_pop p s ▸ h)
  | alu op x => exact aluOperand_ordinary (exec_alu op x s ▸ h)
  | aluImm op x => exact aluImm_ordinary (exec_aluImm op x s ▸ h)
  | inc8 x => exact modifyWithFlags_ordinary (exec_inc8 x s ▸ h)
  | dec8 x => exact modifyWithFlags_ordinary (exec_dec8 x s ▸ h)
  | incReg16 x => exact increment16_ordinary (exec_incReg16 x s ▸ h)
  | decReg16 x => exact decrement16_ordinary (exec_decReg16 x s ▸ h)
  | addHl x => exact addToHl_ordinary (exec_addHl x s ▸ h)
  | rot op x => exact modifyWithFlags_ordinary (exec_rot op x s ▸ h)
  | bit op x => exact testBit_ordinary (exec_bit op x s ▸ h)
  | res op x => exact modifyPlain_ordinary (exec_res op x s ▸ h)
  | set op x => exact modifyPlain_ordinary (exec_set op x s ▸ h)
  | jpCond cc x => exact jumpIf_ordinary (exec_jpCond cc x s ▸ h)
  | jrCond cc x => exact jumpIf_ordinary (exec_jrCond cc x s ▸ h)
  | callCond cc x => exact callIf_ordinary (exec_callCond cc x s ▸ h)
  | retCond cc => exact returnIf_ordinary (exec_retCond cc s ▸ h)
  | rst y => exact callTo_ordinary (exec_rst y s ▸ h)
  | unresolved op i hm => rw [exec_unresolved hm] at h; cases h
  | nop => exact finish_ordinary h
  | ldIndBcA => exact storeTo_ordinary h
  | ldIndDeA => exact storeTo_ordinary h
  | ldIndHlD8 => exact storeTo_ordinary h
  | ldhIndA8A => exact storeTo_ordinary h
  | ldhIndCA => exact storeTo_ordinary h
  | ldIndA16A => exact storeTo_ordinary h
  | ldAIndBc => exact loadFrom_ordinary h
  | ldAIndDe => exact loadFrom_ordinary h
  | ldhAIndA8 => exact loadFrom_ordinary h
  | ldhAIndC => exact loadFrom_ordinary h
  | ldAIndA16 => exact loadFrom_ordinary h
  | rlca => exact rotateA_ordinary h
  | rrca => exact rotateA_ordinary h
  | rla => exact rotateA_ordinary h
  | rra => exact rotateA_ordinary h
  | ldIndA16Sp => exact storeSp_ordinary h
  | stop v => exact absurd rfl (h2 v)
  | halt => exact absurd rfl h1
  | di => exact absurd rfl h3
  | ei => exact absurd rfl h4
  | reti => exact absurd rfl h5
  | jrE8 => exact jumpTo_ordinary h
  | jpA16 => exact jumpTo_ordinary h
  | jpHl => exact jumpTo_ordinary h
  | ldIndHlIncA => exact storeToHlThen_ordinary h
  | ldIndHlDecA => exact storeToHlThen_ordinary h
  | ldAIndHlInc => exact loadFromHlThen_ordinary h
  | ldAIndHlDec => exact loadFromHlThen_ordinary h
  | daa => exact adjustDecimal_ordinary h
  | cpl => exact complementA_ordinary h
  | scf => exact setCarry_ordinary h
  | ccf => exact complementCarry_ordinary h
  | ret => exact returnFrom_ordinary h
  | callA16 => exact callTo_ordinary h
  | addSpE8 => exact addToSp_ordinary h
  | ldHlSpE8 => exact loadHlSpDisplaced_ordinary h
  | ldSpHl => exact loadSpHl_ordinary h
  | prefixCb =>
    obtain ⟨op, u, e1, e2⟩ := andThen_eq_next h
    obtain ⟨-, rfl⟩ := fetch8_eq_next e1
    obtain ⟨a, b, c, d, e, f, g, k, l⟩ := extendedOperation_ordinary e2
    exact ⟨a, b, c, d, e, f, g, k, l⟩

end Sys2Proof.Machine
end

