-- ==== Sys2Proof/Laws/Frames.lean ====
section
/-! SUPPORT. How the terms of Safety.lean follow for a state that is a tick, a register write or a flag write away. -/

namespace Sys2Proof.Machine

/-- A tick on a state with the clock and the width of `s` is the cost. -/
theorem Costs.of_tick {s u : State} (n : Nat) (hb : u.clockBits = s.clockBits) (hc : u.clk = s.clk) :
    Costs n s (tick n u) := by
  simp [Costs, tickClock, hb, hc, Config.clocksPerMachineCycle]

/-- The Memory Unit is alike where contents, regions and what it remembers are alike. -/
theorem SameMemory.of_eq {s t : State} (hm : t.mem = s.mem) (hr : t.regions = s.regions) (hu : t.unit = s.unit) :
    SameMemory s t :=
  ⟨hu, fun x => State.load_congr hm hr hu x⟩

theorem SameRegsBut.setReg (s : State) (r : Reg8) (v : Byte) : SameRegsBut [r] s (s.setReg r v) :=
  fun q hq => State.reg_setReg_other s r q v (by simpa using hq)

theorem SameRegsBut.setReg_tick (s : State) (r : Reg8) (v : Byte) (n : Nat) :
    SameRegsBut [r] s (tick n (s.setReg r v)) :=
  fun q hq => (tick_reg (s.setReg r v) n q).trans (SameRegsBut.setReg s r v q hq)

theorem SameRegsBut.tick {rs : List Reg8} {s t : State} (n : Nat) (h : SameRegsBut rs s t) :
    SameRegsBut rs s (tick n t) :=
  fun q hq => (tick_reg t n q).trans (h q hq)

theorem SameRegsBut.setFlags {rs : List Reg8} {s t : State} (z n h c : Option Bool) (ht : SameRegsBut rs s t) :
    SameRegsBut rs s (t.setFlags z n h c) :=
  fun q hq => (ht q hq).symm ▸ by cases q <;> rfl

theorem Stores.tick {x : Word} {v : Byte} {s t : State} (n : Nat) (h : Stores x v s t) : Stores x v s (tick n t) := h

/-- A push followed by a jump and a tick is still the push. -/
theorem Pushed.jump_tick {v : Word} {s t : State} (x : Word) (n : Nat) (h : Pushed v s t) :
    Pushed v s (Machine.tick n { t with pc := x }) := h

theorem Pushed.tick {v : Word} {s t : State} (n : Nat) (h : Pushed v s t) : Pushed v s (Machine.tick n t) := h

/-- What a flag write leaves in F. -/
theorem FlagsAre.of_setFlags {s : State} {z n h c : Option Bool} {z' n' h' c' : Bool} (hz : z.getD s.flagZ = z')
    (hn : n.getD s.flagN = n') (hh : h.getD s.flagH = h') (hc : c.getD s.flagC = c') (k : Nat) :
    FlagsAre (tick k (s.setFlags z n h c)) z' n' h' c' := by
  subst hz hn hh hc
  exact ⟨flagByte_z _ _ _ _, flagByte_n _ _ _ _, flagByte_h _ _ _ _, flagByte_c _ _ _ _, flagByte_low _ _ _ _⟩

/-- A register write keeps everything but the register. -/
theorem Keeps.setReg_tick (s : State) (r : Reg8) (v : Byte) (n : Nat) : Keeps [] s (tick n (s.setReg r v)) := by
  have hm : SameMemory s (tick n (s.setReg r v)) := .of_eq (by simp) (by simp) (by simp)
  simp [Keeps, hm]

theorem loadFrom_ok {s : State} {x : Word} {v : Byte} (dst : Reg8) (n : Nat) (h : s.load x = .ok v) :
    loadFrom dst x n s = .next (tick n ((s.afterLoad x).setReg dst v)) := by
  unfold loadFrom
  rw [memRead_ok h]
  rfl

theorem loadFrom_fails {s : State} {x : Word} {info : MemInfo} (dst : Reg8) (n : Nat) (h : s.load x = .error info) :
    loadFrom dst x n s = .fault (.memoryAccessFailure info { s.afterLoad x with faulted := true }) := by
  unfold loadFrom
  rw [memRead_error h]
  rfl

theorem storeTo_ok {s : State} {x : Word} {v : Byte} (n : Nat) (h : s.canWrite x v) :
    storeTo x v n s = .next (tick n (s.afterStore x v)) := by
  unfold storeTo
  rw [memWrite_ok h]
  rfl

theorem storeTo_fails {s : State} {x : Word} {v : Byte} {info : MemInfo} (n : Nat)
    (h : s.storeFailure x v = some info) :
    storeTo x v n s = .fault (.memoryAccessFailure info { s.afterStore x v with faulted := true }) := by
  unfold storeTo
  rw [memWrite_fails h]
  rfl

theorem modifyWithFlags_ok {s : State} {x : Operand8} {f : State → Byte → Result8} {n : Nat} {v : Byte}
    (h : OperandHolds x v s) (hw : OperandWritable x (f (s.afterOperand x) v).value (s.afterOperand x)) :
    modifyWithFlags x f n s = .next (tick n (((s.afterOperand x).withOperand x (f (s.afterOperand x) v).value).setFlagsOf
      (f (s.afterOperand x) v))) := by
  unfold modifyWithFlags
  rw [readR8_of_holds h]
  simp only [andThen_next]
  rw [writeR8_ok hw]
  rfl

theorem modifyPlain_ok {s : State} {x : Operand8} {f : Byte → Byte} {n : Nat} {v : Byte} (h : OperandHolds x v s)
    (hw : OperandWritable x (f v) (s.afterOperand x)) :
    modifyPlain x f n s = .next (tick n ((s.afterOperand x).withOperand x (f v))) := by
  unfold modifyPlain
  rw [readR8_of_holds h]
  simp only [andThen_next]
  rw [writeR8_ok hw]
  rfl

end Sys2Proof.Machine
end

