-- ==== Sys2Proof/Laws/PerInstr.lean ====
section
/-! SUPPORT. The family `EncodedLength`: for every instruction, its encoding is as long as its own first byte says
(spec/30_encoding.md R71). -/

namespace Sys2Proof.Laws.EncodedLength

/-- The encoding of a well-formed instruction has a first byte, and that byte alone decides its length (R71). -/
def Statement (i : Instr) : Prop :=
  i.wf = true → ∃ op rest, encode i = op :: rest ∧ (encode i).length = lengthFromFirst op

theorem nop : Statement .nop := fun _ => ⟨_, _, rfl, rfl⟩
theorem ldBcD16 (v : Word) : Statement (.ldBcD16 v) := fun _ => ⟨_, _, rfl, rfl⟩
theorem ldIndBcA : Statement .ldIndBcA := fun _ => ⟨_, _, rfl, rfl⟩
theorem incBc : Statement .incBc := fun _ => ⟨_, _, rfl, rfl⟩
theorem incB : Statement .incB := fun _ => ⟨_, _, rfl, rfl⟩
theorem decB : Statement .decB := fun _ => ⟨_, _, rfl, rfl⟩
theorem ldBD8 (v : Byte) : Statement (.ldBD8 v) := fun _ => ⟨_, _, rfl, rfl⟩
theorem rlca : Statement .rlca := fun _ => ⟨_, _, rfl, rfl⟩
theorem ldIndA16Sp (v : Word) : Statement (.ldIndA16Sp v) := fun _ => ⟨_, _, rfl, rfl⟩
theorem addHlBc : Statement .addHlBc := fun _ => ⟨_, _, rfl, rfl⟩
theorem ldAIndBc : Statement .ldAIndBc := fun _ => ⟨_, _, rfl, rfl⟩
theorem decBc : Statement .decBc := fun _ => ⟨_, _, rfl, rfl⟩
theorem incC : Statement .incC := fun _ => ⟨_, _, rfl, rfl⟩
theorem decC : Statement .decC := fun _ => ⟨_, _, rfl, rfl⟩
theorem ldCD8 (v : Byte) : Statement (.ldCD8 v) := fun _ => ⟨_, _, rfl, rfl⟩
theorem rrca : Statement .rrca := fun _ => ⟨_, _, rfl, rfl⟩
theorem stop (v : Byte) : Statement (.stop v) := fun _ => ⟨_, _, rfl, rfl⟩
theorem ldDeD16 (v : Word) : Statement (.ldDeD16 v) := fun _ => ⟨_, _, rfl, rfl⟩
theorem ldIndDeA : Statement .ldIndDeA := fun _ => ⟨_, _, rfl, rfl⟩
theorem incDe : Statement .incDe := fun _ => ⟨_, _, rfl, rfl⟩
theorem incD : Statement .incD := fun _ => ⟨_, _, rfl, rfl⟩
theorem decD : Statement .decD := fun _ => ⟨_, _, rfl, rfl⟩
theorem ldDD8 (v : Byte) : Statement (.ldDD8 v) := fun _ => ⟨_, _, rfl, rfl⟩
theorem rla : Statement .rla := fun _ => ⟨_, _, rfl, rfl⟩
theorem jrE8 (v : Byte) : Statement (.jrE8 v) := fun _ => ⟨_, _, rfl, rfl⟩
theorem addHlDe : Statement .addHlDe := fun _ => ⟨_, _, rfl, rfl⟩
theorem ldAIndDe : Statement .ldAIndDe := fun _ => ⟨_, _, rfl, rfl⟩
theorem decDe : Statement .decDe := fun _ => ⟨_, _, rfl, rfl⟩
theorem incE : Statement .incE := fun _ => ⟨_, _, rfl, rfl⟩
theorem decE : Statement .decE := fun _ => ⟨_, _, rfl, rfl⟩
theorem ldED8 (v : Byte) : Statement (.ldED8 v) := fun _ => ⟨_, _, rfl, rfl⟩
theorem rra : Statement .rra := fun _ => ⟨_, _, rfl, rfl⟩
theorem jrNzE8 (v : Byte) : Statement (.jrNzE8 v) := fun _ => ⟨_, _, rfl, rfl⟩
theorem ldHlD16 (v : Word) : Statement (.ldHlD16 v) := fun _ => ⟨_, _, rfl, rfl⟩
theorem ldIndHlIncA : Statement .ldIndHlIncA := fun _ => ⟨_, _, rfl, rfl⟩
theorem incHl : Statement .incHl := fun _ => ⟨_, _, rfl, rfl⟩
theorem incH : Statement .incH := fun _ => ⟨_, _, rfl, rfl⟩
theorem decH : Statement .decH := fun _ => ⟨_, _, rfl, rfl⟩
theorem ldHD8 (v : Byte) : Statement (.ldHD8 v) := fun _ => ⟨_, _, rfl, rfl⟩
theorem daa : Statement .daa := fun _ => ⟨_, _, rfl, rfl⟩
theorem jrZE8 (v : Byte) : Statement (.jrZE8 v) := fun _ => ⟨_, _, rfl, rfl⟩
theorem addHlHl : Statement .addHlHl := fun _ => ⟨_, _, rfl, rfl⟩
theorem ldAIndHlInc : Statement .ldAIndHlInc := fun _ => ⟨_, _, rfl, rfl⟩
theorem decHl : Statement .decHl := fun _ => ⟨_, _, rfl, rfl⟩
theorem incL : Statement .incL := fun _ => ⟨_, _, rfl, rfl⟩
theorem decL : Statement .decL := fun _ => ⟨_, _, rfl, rfl⟩
theorem ldLD8 (v : Byte) : Statement (.ldLD8 v) := fun _ => ⟨_, _, rfl, rfl⟩
theorem cpl : Statement .cpl := fun _ => ⟨_, _, rfl, rfl⟩
theorem jrNcE8 (v : Byte) : Statement (.jrNcE8 v) := fun _ => ⟨_, _, rfl, rfl⟩
theorem ldSpD16 (v : Word) : Statement (.ldSpD16 v) := fun _ => ⟨_, _, rfl, rfl⟩
theorem ldIndHlDecA : Statement .ldIndHlDecA := fun _ => ⟨_, _, rfl, rfl⟩
theorem incSp : Statement .incSp := fun _ => ⟨_, _, rfl, rfl⟩
theorem incIndHl : Statement .incIndHl := fun _ => ⟨_, _, rfl, rfl⟩
theorem decIndHl : Statement .decIndHl := fun _ => ⟨_, _, rfl, rfl⟩
theorem ldIndHlD8 (v : Byte) : Statement (.ldIndHlD8 v) := fun _ => ⟨_, _, rfl, rfl⟩
theorem scf : Statement .scf := fun _ => ⟨_, _, rfl, rfl⟩
theorem jrCE8 (v : Byte) : Statement (.jrCE8 v) := fun _ => ⟨_, _, rfl, rfl⟩
theorem addHlSp : Statement .addHlSp := fun _ => ⟨_, _, rfl, rfl⟩
theorem ldAIndHlDec : Statement .ldAIndHlDec := fun _ => ⟨_, _, rfl, rfl⟩
theorem decSp : Statement .decSp := fun _ => ⟨_, _, rfl, rfl⟩
theorem incA : Statement .incA := fun _ => ⟨_, _, rfl, rfl⟩
theorem decA : Statement .decA := fun _ => ⟨_, _, rfl, rfl⟩
theorem ldAD8 (v : Byte) : Statement (.ldAD8 v) := fun _ => ⟨_, _, rfl, rfl⟩
theorem ccf : Statement .ccf := fun _ => ⟨_, _, rfl, rfl⟩
theorem ldBB : Statement .ldBB := fun _ => ⟨_, _, rfl, rfl⟩
theorem ldBC : Statement .ldBC := fun _ => ⟨_, _, rfl, rfl⟩
theorem ldBD : Statement .ldBD := fun _ => ⟨_, _, rfl, rfl⟩
theorem ldBE : Statement .ldBE := fun _ => ⟨_, _, rfl, rfl⟩
theorem ldBH : Statement .ldBH := fun _ => ⟨_, _, rfl, rfl⟩
theorem ldBL : Statement .ldBL := fun _ => ⟨_, _, rfl, rfl⟩
theorem ldBIndHl : Statement .ldBIndHl := fun _ => ⟨_, _, rfl, rfl⟩
theorem ldBA : Statement .ldBA := fun _ => ⟨_, _, rfl, rfl⟩
theorem ldCB : Statement .ldCB := fun _ => ⟨_, _, rfl, rfl⟩
theorem ldCC : Statement .ldCC := fun _ => ⟨_, _, rfl, rfl⟩
theorem ldCD : Statement .ldCD := fun _ => ⟨_, _, rfl, rfl⟩
theorem ldCE : Statement .ldCE := fun _ => ⟨_, _, rfl, rfl⟩
theorem ldCH : Statement .ldCH := fun _ => ⟨_, _, rfl, rfl⟩
theorem ldCL : Statement .ldCL := fun _ => ⟨_, _, rfl, rfl⟩
theorem ldCIndHl : Statement .ldCIndHl := fun _ => ⟨_, _, rfl, rfl⟩
theorem ldCA : Statement .ldCA := fun _ => ⟨_, _, rfl, rfl⟩
theorem ldDB : Statement .ldDB := fun _ => ⟨_, _, rfl, rfl⟩
theorem ldDC : Statement .ldDC := fun _ => ⟨_, _, rfl, rfl⟩
theorem ldDD : Statement .ldDD := fun _ => ⟨_, _, rfl, rfl⟩
theorem ldDE : Statement .ldDE := fun _ => ⟨_, _, rfl, rfl⟩
theorem ldDH : Statement .ldDH := fun _ => ⟨_, _, rfl, rfl⟩
theorem ldDL : Statement .ldDL := fun _ => ⟨_, _, rfl, rfl⟩
theorem ldDIndHl : Statement .ldDIndHl := fun _ => ⟨_, _, rfl, rfl⟩
theorem ldDA : Statement .ldDA := fun _ => ⟨_, _, rfl, rfl⟩
theorem ldEB : Statement .ldEB := fun _ => ⟨_, _, rfl, rfl⟩
theorem ldEC : Statement .ldEC := fun _ => ⟨_, _, rfl, rfl⟩
theorem ldED : Statement .ldED := fun _ => ⟨_, _, rfl, rfl⟩
theorem ldEE : Statement .ldEE := fun _ => ⟨_, _, rfl, rfl⟩
theorem ldEH : Statement .ldEH := fun _ => ⟨_, _, rfl, rfl⟩
theorem ldEL : Statement .ldEL := fun _ => ⟨_, _, rfl, rfl⟩
theorem ldEIndHl : Statement .ldEIndHl := fun _ => ⟨_, _, rfl, rfl⟩
theorem ldEA : Statement .ldEA := fun _ => ⟨_, _, rfl, rfl⟩
theorem ldHB : Statement .ldHB := fun _ => ⟨_, _, rfl, rfl⟩
theorem ldHC : Statement .ldHC := fun _ => ⟨_, _, rfl, rfl⟩
theorem ldHD : Statement .ldHD := fun _ => ⟨_, _, rfl, rfl⟩
theorem ldHE : Statement .ldHE := fun _ => ⟨_, _, rfl, rfl⟩
theorem ldHH : Statement .ldHH := fun _ => ⟨_, _, rfl, rfl⟩
theorem ldHL : Statement .ldHL := fun _ => ⟨_, _, rfl, rfl⟩
theorem ldHIndHl : Statement .ldHIndHl := fun _ => ⟨_, _, rfl, rfl⟩
theorem ldHA : Statement .ldHA := fun _ => ⟨_, _, rfl, rfl⟩
theorem ldLB : Statement .ldLB := fun _ => ⟨_, _, rfl, rfl⟩
theorem ldLC : Statement .ldLC := fun _ => ⟨_, _, rfl, rfl⟩
theorem ldLD : Statement .ldLD := fun _ => ⟨_, _, rfl, rfl⟩
theorem ldLE : Statement .ldLE := fun _ => ⟨_, _, rfl, rfl⟩
theorem ldLH : Statement .ldLH := fun _ => ⟨_, _, rfl, rfl⟩
theorem ldLL : Statement .ldLL := fun _ => ⟨_, _, rfl, rfl⟩
theorem ldLIndHl : Statement .ldLIndHl := fun _ => ⟨_, _, rfl, rfl⟩
theorem ldLA : Statement .ldLA := fun _ => ⟨_, _, rfl, rfl⟩
theorem ldIndHlB : Statement .ldIndHlB := fun _ => ⟨_, _, rfl, rfl⟩
theorem ldIndHlC : Statement .ldIndHlC := fun _ => ⟨_, _, rfl, rfl⟩
theorem ldIndHlD : Statement .ldIndHlD := fun _ => ⟨_, _, rfl, rfl⟩
theorem ldIndHlE : Statement .ldIndHlE := fun _ => ⟨_, _, rfl, rfl⟩
theorem ldIndHlH : Statement .ldIndHlH := fun _ => ⟨_, _, rfl, rfl⟩
theorem ldIndHlL : Statement .ldIndHlL := fun _ => ⟨_, _, rfl, rfl⟩
theorem halt : Statement .halt := fun _ => ⟨_, _, rfl, rfl⟩
theorem ldIndHlA : Statement .ldIndHlA := fun _ => ⟨_, _, rfl, rfl⟩
theorem ldAB : Statement .ldAB := fun _ => ⟨_, _, rfl, rfl⟩
theorem ldAC : Statement .ldAC := fun _ => ⟨_, _, rfl, rfl⟩
theorem ldAD : Statement .ldAD := fun _ => ⟨_, _, rfl, rfl⟩
theorem ldAE : Statement .ldAE := fun _ => ⟨_, _, rfl, rfl⟩
theorem ldAH : Statement .ldAH := fun _ => ⟨_, _, rfl, rfl⟩
theorem ldAL : Statement .ldAL := fun _ => ⟨_, _, rfl, rfl⟩
theorem ldAIndHl : Statement .ldAIndHl := fun _ => ⟨_, _, rfl, rfl⟩
theorem ldAA : Statement .ldAA := fun _ => ⟨_, _, rfl, rfl⟩
theorem addAB : Statement .addAB := fun _ => ⟨_, _, rfl, rfl⟩
theorem addAC : Statement .addAC := fun _ => ⟨_, _, rfl, rfl⟩
theorem addAD : Statement .addAD := fun _ => ⟨_, _, rfl, rfl⟩
theorem addAE : Statement .addAE := fun _ => ⟨_, _, rfl, rfl⟩
theorem addAH : Statement .addAH := fun _ => ⟨_, _, rfl, rfl⟩
theorem addAL : Statement .addAL := fun _ => ⟨_, _, rfl, rfl⟩
theorem addAIndHl : Statement .addAIndHl := fun _ => ⟨_, _, rfl, rfl⟩
theorem addAA : Statement .addAA := fun _ => ⟨_, _, rfl, rfl⟩
theorem adcAB : Statement .adcAB := fun _ => ⟨_, _, rfl, rfl⟩
theorem adcAC : Statement .adcAC := fun _ => ⟨_, _, rfl, rfl⟩
theorem adcAD : Statement .adcAD := fun _ => ⟨_, _, rfl, rfl⟩
theorem adcAE : Statement .adcAE := fun _ => ⟨_, _, rfl, rfl⟩
theorem adcAH : Statement .adcAH := fun _ => ⟨_, _, rfl, rfl⟩
theorem adcAL : Statement .adcAL := fun _ => ⟨_, _, rfl, rfl⟩
theorem adcAIndHl : Statement .adcAIndHl := fun _ => ⟨_, _, rfl, rfl⟩
theorem adcAA : Statement .adcAA := fun _ => ⟨_, _, rfl, rfl⟩
theorem subAB : Statement .subAB := fun _ => ⟨_, _, rfl, rfl⟩
theorem subAC : Statement .subAC := fun _ => ⟨_, _, rfl, rfl⟩
theorem subAD : Statement .subAD := fun _ => ⟨_, _, rfl, rfl⟩
theorem subAE : Statement .subAE := fun _ => ⟨_, _, rfl, rfl⟩
theorem subAH : Statement .subAH := fun _ => ⟨_, _, rfl, rfl⟩
theorem subAL : Statement .subAL := fun _ => ⟨_, _, rfl, rfl⟩
theorem subAIndHl : Statement .subAIndHl := fun _ => ⟨_, _, rfl, rfl⟩
theorem subAA : Statement .subAA := fun _ => ⟨_, _, rfl, rfl⟩
theorem sbcAB : Statement .sbcAB := fun _ => ⟨_, _, rfl, rfl⟩
theorem sbcAC : Statement .sbcAC := fun _ => ⟨_, _, rfl, rfl⟩
theorem sbcAD : Statement .sbcAD := fun _ => ⟨_, _, rfl, rfl⟩
theorem sbcAE : Statement .sbcAE := fun _ => ⟨_, _, rfl, rfl⟩
theorem sbcAH : Statement .sbcAH := fun _ => ⟨_, _, rfl, rfl⟩
theorem sbcAL : Statement .sbcAL := fun _ => ⟨_, _, rfl, rfl⟩
theorem sbcAIndHl : Statement .sbcAIndHl := fun _ => ⟨_, _, rfl, rfl⟩
theorem sbcAA : Statement .sbcAA := fun _ => ⟨_, _, rfl, rfl⟩
theorem andAB : Statement .andAB := fun _ => ⟨_, _, rfl, rfl⟩
theorem andAC : Statement .andAC := fun _ => ⟨_, _, rfl, rfl⟩
theorem andAD : Statement .andAD := fun _ => ⟨_, _, rfl, rfl⟩
theorem andAE : Statement .andAE := fun _ => ⟨_, _, rfl, rfl⟩
theorem andAH : Statement .andAH := fun _ => ⟨_, _, rfl, rfl⟩
theorem andAL : Statement .andAL := fun _ => ⟨_, _, rfl, rfl⟩
theorem andAIndHl : Statement .andAIndHl := fun _ => ⟨_, _, rfl, rfl⟩
theorem andAA : Statement .andAA := fun _ => ⟨_, _, rfl, rfl⟩
theorem xorAB : Statement .xorAB := fun _ => ⟨_, _, rfl, rfl⟩
theorem xorAC : Statement .xorAC := fun _ => ⟨_, _, rfl, rfl⟩
theorem xorAD : Statement .xorAD := fun _ => ⟨_, _, rfl, rfl⟩
theorem xorAE : Statement .xorAE := fun _ => ⟨_, _, rfl, rfl⟩
theorem xorAH : Statement .xorAH := fun _ => ⟨_, _, rfl, rfl⟩
theorem xorAL : Statement .xorAL := fun _ => ⟨_, _, rfl, rfl⟩
theorem xorAIndHl : Statement .xorAIndHl := fun _ => ⟨_, _, rfl, rfl⟩
theorem xorAA : Statement .xorAA := fun _ => ⟨_, _, rfl, rfl⟩
theorem orAB : Statement .orAB := fun _ => ⟨_, _, rfl, rfl⟩
theorem orAC : Statement .orAC := fun _ => ⟨_, _, rfl, rfl⟩
theorem orAD : Statement .orAD := fun _ => ⟨_, _, rfl, rfl⟩
theorem orAE : Statement .orAE := fun _ => ⟨_, _, rfl, rfl⟩
theorem orAH : Statement .orAH := fun _ => ⟨_, _, rfl, rfl⟩
theorem orAL : Statement .orAL := fun _ => ⟨_, _, rfl, rfl⟩
theorem orAIndHl : Statement .orAIndHl := fun _ => ⟨_, _, rfl, rfl⟩
theorem orAA : Statement .orAA := fun _ => ⟨_, _, rfl, rfl⟩
theorem cpAB : Statement .cpAB := fun _ => ⟨_, _, rfl, rfl⟩
theorem cpAC : Statement .cpAC := fun _ => ⟨_, _, rfl, rfl⟩
theorem cpAD : Statement .cpAD := fun _ => ⟨_, _, rfl, rfl⟩
theorem cpAE : Statement .cpAE := fun _ => ⟨_, _, rfl, rfl⟩
theorem cpAH : Statement .cpAH := fun _ => ⟨_, _, rfl, rfl⟩
theorem cpAL : Statement .cpAL := fun _ => ⟨_, _, rfl, rfl⟩
theorem cpAIndHl : Statement .cpAIndHl := fun _ => ⟨_, _, rfl, rfl⟩
theorem cpAA : Statement .cpAA := fun _ => ⟨_, _, rfl, rfl⟩
theorem retNz : Statement .retNz := fun _ => ⟨_, _, rfl, rfl⟩
theorem popBc : Statement .popBc := fun _ => ⟨_, _, rfl, rfl⟩
theorem jpNzA16 (v : Word) : Statement (.jpNzA16 v) := fun _ => ⟨_, _, rfl, rfl⟩
theorem jpA16 (v : Word) : Statement (.jpA16 v) := fun _ => ⟨_, _, rfl, rfl⟩
theorem callNzA16 (v : Word) : Statement (.callNzA16 v) := fun _ => ⟨_, _, rfl, rfl⟩
theorem pushBc : Statement .pushBc := fun _ => ⟨_, _, rfl, rfl⟩
theorem addAD8 (v : Byte) : Statement (.addAD8 v) := fun _ => ⟨_, _, rfl, rfl⟩
theorem rst00 : Statement .rst00 := fun _ => ⟨_, _, rfl, rfl⟩
theorem retZ : Statement .retZ := fun _ => ⟨_, _, rfl, rfl⟩
theorem ret : Statement .ret := fun _ => ⟨_, _, rfl, rfl⟩
theorem jpZA16 (v : Word) : Statement (.jpZA16 v) := fun _ => ⟨_, _, rfl, rfl⟩
theorem prefixCb : Statement .prefixCb := fun h => absurd h (by decide)
theorem callZA16 (v : Word) : Statement (.callZA16 v) := fun _ => ⟨_, _, rfl, rfl⟩
theorem callA16 (v : Word) : Statement (.callA16 v) := fun _ => ⟨_, _, rfl, rfl⟩
theorem adcAD8 (v : Byte) : Statement (.adcAD8 v) := fun _ => ⟨_, _, rfl, rfl⟩
theorem rst08 : Statement .rst08 := fun _ => ⟨_, _, rfl, rfl⟩
theorem retNc : Statement .retNc := fun _ => ⟨_, _, rfl, rfl⟩
theorem popDe : Statement .popDe := fun _ => ⟨_, _, rfl, rfl⟩
theorem jpNcA16 (v : Word) : Statement (.jpNcA16 v) := fun _ => ⟨_, _, rfl, rfl⟩
theorem illegalD3 : Statement .illegalD3 := fun _ => ⟨_, _, rfl, rfl⟩
theorem callNcA16 (v : Word) : Statement (.callNcA16 v) := fun _ => ⟨_, _, rfl, rfl⟩
theorem pushDe : Statement .pushDe := fun _ => ⟨_, _, rfl, rfl⟩
theorem subAD8 (v : Byte) : Statement (.subAD8 v) := fun _ => ⟨_, _, rfl, rfl⟩
theorem rst10 : Statement .rst10 := fun _ => ⟨_, _, rfl, rfl⟩
theorem retC : Statement .retC := fun _ => ⟨_, _, rfl, rfl⟩
theorem reti : Statement .reti := fun _ => ⟨_, _, rfl, rfl⟩
theorem jpCA16 (v : Word) : Statement (.jpCA16 v) := fun _ => ⟨_, _, rfl, rfl⟩
theorem illegalDB : Statement .illegalDB := fun _ => ⟨_, _, rfl, rfl⟩
theorem callCA16 (v : Word) : Statement (.callCA16 v) := fun _ => ⟨_, _, rfl, rfl⟩
theorem illegalDD : Statement .illegalDD := fun _ => ⟨_, _, rfl, rfl⟩
theorem sbcAD8 (v : Byte) : Statement (.sbcAD8 v) := fun _ => ⟨_, _, rfl, rfl⟩
theorem rst18 : Statement .rst18 := fun _ => ⟨_, _, rfl, rfl⟩
theorem ldhIndA8A (v : Byte) : Statement (.ldhIndA8A v) := fun _ => ⟨_, _, rfl, rfl⟩
theorem popHl : Statement .popHl := fun _ => ⟨_, _, rfl, rfl⟩
theorem ldhIndCA : Statement .ldhIndCA := fun _ => ⟨_, _, rfl, rfl⟩
theorem illegalE3 : Statement .illegalE3 := fun _ => ⟨_, _, rfl, rfl⟩
theorem illegalE4 : Statement .illegalE4 := fun _ => ⟨_, _, rfl, rfl⟩
theorem pushHl : Statement .pushHl := fun _ => ⟨_, _, rfl, rfl⟩
theorem andAD8 (v : Byte) : Statement (.andAD8 v) := fun _ => ⟨_, _, rfl, rfl⟩
theorem rst20 : Statement .rst20 := fun _ => ⟨_, _, rfl, rfl⟩
theorem addSpE8 (v : Byte) : Statement (.addSpE8 v) := fun _ => ⟨_, _, rfl, rfl⟩
theorem jpHl : Statement .jpHl := fun _ => ⟨_, _, rfl, rfl⟩
theorem ldIndA16A (v : Word) : Statement (.ldIndA16A v) := fun _ => ⟨_, _, rfl, rfl⟩
theorem illegalEB : Statement .illegalEB := fun _ => ⟨_, _, rfl, rfl⟩
theorem illegalEC : Statement .illegalEC := fun _ => ⟨_, _, rfl, rfl⟩
theorem illegalED : Statement .illegalED := fun _ => ⟨_, _, rfl, rfl⟩
theorem xorAD8 (v : Byte) : Statement (.xorAD8 v) := fun _ => ⟨_, _, rfl, rfl⟩
theorem rst28 : Statement .rst28 := fun _ => ⟨_, _, rfl, rfl⟩
theorem ldhAIndA8 (v : Byte) : Statement (.ldhAIndA8 v) := fun _ => ⟨_, _, rfl, rfl⟩
theorem popAf : Statement .popAf := fun _ => ⟨_, _, rfl, rfl⟩
theorem ldhAIndC : Statement .ldhAIndC := fun _ => ⟨_, _, rfl, rfl⟩
theorem di : Statement .di := fun _ => ⟨_, _, rfl, rfl⟩
theorem illegalF4 : Statement .illegalF4 := fun _ => ⟨_, _, rfl, rfl⟩
theorem pushAf : Statement .pushAf := fun _ => ⟨_, _, rfl, rfl⟩
theorem orAD8 (v : Byte) : Statement (.orAD8 v) := fun _ => ⟨_, _, rfl, rfl⟩
theorem rst30 : Statement .rst30 := fun _ => ⟨_, _, rfl, rfl⟩
theorem ldHlSpE8 (v : Byte) : Statement (.ldHlSpE8 v) := fun _ => ⟨_, _, rfl, rfl⟩
theorem ldSpHl : Statement .ldSpHl := fun _ => ⟨_, _, rfl, rfl⟩
theorem ldAIndA16 (v : Word) : Statement (.ldAIndA16 v) := fun _ => ⟨_, _, rfl, rfl⟩
theorem ei : Statement .ei := fun _ => ⟨_, _, rfl, rfl⟩
theorem illegalFC : Statement .illegalFC := fun _ => ⟨_, _, rfl, rfl⟩
theorem illegalFD : Statement .illegalFD := fun _ => ⟨_, _, rfl, rfl⟩
theorem cpAD8 (v : Byte) : Statement (.cpAD8 v) := fun _ => ⟨_, _, rfl, rfl⟩
theorem rst38 : Statement .rst38 := fun _ => ⟨_, _, rfl, rfl⟩
theorem rlcB : Statement .rlcB := fun _ => ⟨_, _, rfl, rfl⟩
theorem rlcC : Statement .rlcC := fun _ => ⟨_, _, rfl, rfl⟩
theorem rlcD : Statement .rlcD := fun _ => ⟨_, _, rfl, rfl⟩
theorem rlcE : Statement .rlcE := fun _ => ⟨_, _, rfl, rfl⟩
theorem rlcH : Statement .rlcH := fun _ => ⟨_, _, rfl, rfl⟩
theorem rlcL : Statement .rlcL := fun _ => ⟨_, _, rfl, rfl⟩
theorem rlcIndHl : Statement .rlcIndHl := fun _ => ⟨_, _, rfl, rfl⟩
theorem rlcA : Statement .rlcA := fun _ => ⟨_, _, rfl, rfl⟩
theorem rrcB : Statement .rrcB := fun _ => ⟨_, _, rfl, rfl⟩
theorem rrcC : Statement .rrcC := fun _ => ⟨_, _, rfl, rfl⟩
theorem rrcD : Statement .rrcD := fun _ => ⟨_, _, rfl, rfl⟩
theorem rrcE : Statement .rrcE := fun _ => ⟨_, _, rfl, rfl⟩
theorem rrcH : Statement .rrcH := fun _ => ⟨_, _, rfl, rfl⟩
theorem rrcL : Statement .rrcL := fun _ => ⟨_, _, rfl, rfl⟩
theorem rrcIndHl : Statement .rrcIndHl := fun _ => ⟨_, _, rfl, rfl⟩
theorem rrcA : Statement .rrcA := fun _ => ⟨_, _, rfl, rfl⟩
theorem rlB : Statement .rlB := fun _ => ⟨_, _, rfl, rfl⟩
theorem rlC : Statement .rlC := fun _ => ⟨_, _, rfl, rfl⟩
theorem rlD : Statement .rlD := fun _ => ⟨_, _, rfl, rfl⟩
theorem rlE : Statement .rlE := fun _ => ⟨_, _, rfl, rfl⟩
theorem rlH : Statement .rlH := fun _ => ⟨_, _, rfl, rfl⟩
theorem rlL : Statement .rlL := fun _ => ⟨_, _, rfl, rfl⟩
theorem rlIndHl : Statement .rlIndHl := fun _ => ⟨_, _, rfl, rfl⟩
theorem rlA : Statement .rlA := fun _ => ⟨_, _, rfl, rfl⟩
theorem rrB : Statement .rrB := fun _ => ⟨_, _, rfl, rfl⟩
theorem rrC : Statement .rrC := fun _ => ⟨_, _, rfl, rfl⟩
theorem rrD : Statement .rrD := fun _ => ⟨_, _, rfl, rfl⟩
theorem rrE : Statement .rrE := fun _ => ⟨_, _, rfl, rfl⟩
theorem rrH : Statement .rrH := fun _ => ⟨_, _, rfl, rfl⟩
theorem rrL : Statement .rrL := fun _ => ⟨_, _, rfl, rfl⟩
theorem rrIndHl : Statement .rrIndHl := fun _ => ⟨_, _, rfl, rfl⟩
theorem rrA : Statement .rrA := fun _ => ⟨_, _, rfl, rfl⟩
theorem slaB : Statement .slaB := fun _ => ⟨_, _, rfl, rfl⟩
theorem slaC : Statement .slaC := fun _ => ⟨_, _, rfl, rfl⟩
theorem slaD : Statement .slaD := fun _ => ⟨_, _, rfl, rfl⟩
theorem slaE : Statement .slaE := fun _ => ⟨_, _, rfl, rfl⟩
theorem slaH : Statement .slaH := fun _ => ⟨_, _, rfl, rfl⟩
theorem slaL : Statement .slaL := fun _ => ⟨_, _, rfl, rfl⟩
theorem slaIndHl : Statement .slaIndHl := fun _ => ⟨_, _, rfl, rfl⟩
theorem slaA : Statement .slaA := fun _ => ⟨_, _, rfl, rfl⟩
theorem sraB : Statement .sraB := fun _ => ⟨_, _, rfl, rfl⟩
theorem sraC : Statement .sraC := fun _ => ⟨_, _, rfl, rfl⟩
theorem sraD : Statement .sraD := fun _ => ⟨_, _, rfl, rfl⟩
theorem sraE : Statement .sraE := fun _ => ⟨_, _, rfl, rfl⟩
theorem sraH : Statement .sraH := fun _ => ⟨_, _, rfl, rfl⟩
theorem sraL : Statement .sraL := fun _ => ⟨_, _, rfl, rfl⟩
theorem sraIndHl : Statement .sraIndHl := fun _ => ⟨_, _, rfl, rfl⟩
theorem sraA : Statement .sraA := fun _ => ⟨_, _, rfl, rfl⟩
theorem swapB : Statement .swapB := fun _ => ⟨_, _, rfl, rfl⟩
theorem swapC : Statement .swapC := fun _ => ⟨_, _, rfl, rfl⟩
theorem swapD : Statement .swapD := fun _ => ⟨_, _, rfl, rfl⟩
theorem swapE : Statement .swapE := fun _ => ⟨_, _, rfl, rfl⟩
theorem swapH : Statement .swapH := fun _ => ⟨_, _, rfl, rfl⟩
theorem swapL : Statement .swapL := fun _ => ⟨_, _, rfl, rfl⟩
theorem swapIndHl : Statement .swapIndHl := fun _ => ⟨_, _, rfl, rfl⟩
theorem swapA : Statement .swapA := fun _ => ⟨_, _, rfl, rfl⟩
theorem srlB : Statement .srlB := fun _ => ⟨_, _, rfl, rfl⟩
theorem srlC : Statement .srlC := fun _ => ⟨_, _, rfl, rfl⟩
theorem srlD : Statement .srlD := fun _ => ⟨_, _, rfl, rfl⟩
theorem srlE : Statement .srlE := fun _ => ⟨_, _, rfl, rfl⟩
theorem srlH : Statement .srlH := fun _ => ⟨_, _, rfl, rfl⟩
theorem srlL : Statement .srlL := fun _ => ⟨_, _, rfl, rfl⟩
theorem srlIndHl : Statement .srlIndHl := fun _ => ⟨_, _, rfl, rfl⟩
theorem srlA : Statement .srlA := fun _ => ⟨_, _, rfl, rfl⟩
theorem bit0B : Statement .bit0B := fun _ => ⟨_, _, rfl, rfl⟩
theorem bit0C : Statement .bit0C := fun _ => ⟨_, _, rfl, rfl⟩
theorem bit0D : Statement .bit0D := fun _ => ⟨_, _, rfl, rfl⟩
theorem bit0E : Statement .bit0E := fun _ => ⟨_, _, rfl, rfl⟩
theorem bit0H : Statement .bit0H := fun _ => ⟨_, _, rfl, rfl⟩
theorem bit0L : Statement .bit0L := fun _ => ⟨_, _, rfl, rfl⟩
theorem bit0IndHl : Statement .bit0IndHl := fun _ => ⟨_, _, rfl, rfl⟩
theorem bit0A : Statement .bit0A := fun _ => ⟨_, _, rfl, rfl⟩
theorem bit1B : Statement .bit1B := fun _ => ⟨_, _, rfl, rfl⟩
theorem bit1C : Statement .bit1C := fun _ => ⟨_, _, rfl, rfl⟩
theorem bit1D : Statement .bit1D := fun _ => ⟨_, _, rfl, rfl⟩
theorem bit1E : Statement .bit1E := fun _ => ⟨_, _, rfl, rfl⟩
theorem bit1H : Statement .bit1H := fun _ => ⟨_, _, rfl, rfl⟩
theorem bit1L : Statement .bit1L := fun _ => ⟨_, _, rfl, rfl⟩
theorem bit1IndHl : Statement .bit1IndHl := fun _ => ⟨_, _, rfl, rfl⟩
theorem bit1A : Statement .bit1A := fun _ => ⟨_, _, rfl, rfl⟩
theorem bit2B : Statement .bit2B := fun _ => ⟨_, _, rfl, rfl⟩
theorem bit2C : Statement .bit2C := fun _ => ⟨_, _, rfl, rfl⟩
theorem bit2D : Statement .bit2D := fun _ => ⟨_, _, rfl, rfl⟩
theorem bit2E : Statement .bit2E := fun _ => ⟨_, _, rfl, rfl⟩
theorem bit2H : Statement .bit2H := fun _ => ⟨_, _, rfl, rfl⟩
theorem bit2L : Statement .bit2L := fun _ => ⟨_, _, rfl, rfl⟩
theorem bit2IndHl : Statement .bit2IndHl := fun _ => ⟨_, _, rfl, rfl⟩
theorem bit2A : Statement .bit2A := fun _ => ⟨_, _, rfl, rfl⟩
theorem bit3B : Statement .bit3B := fun _ => ⟨_, _, rfl, rfl⟩
theorem bit3C : Statement .bit3C := fun _ => ⟨_, _, rfl, rfl⟩
theorem bit3D : Statement .bit3D := fun _ => ⟨_, _, rfl, rfl⟩
theorem bit3E : Statement .bit3E := fun _ => ⟨_, _, rfl, rfl⟩
theorem bit3H : Statement .bit3H := fun _ => ⟨_, _, rfl, rfl⟩
theorem bit3L : Statement .bit3L := fun _ => ⟨_, _, rfl, rfl⟩
theorem bit3IndHl : Statement .bit3IndHl := fun _ => ⟨_, _, rfl, rfl⟩
theorem bit3A : Statement .bit3A := fun _ => ⟨_, _, rfl, rfl⟩
theorem bit4B : Statement .bit4B := fun _ => ⟨_, _, rfl, rfl⟩
theorem bit4C : Statement .bit4C := fun _ => ⟨_, _, rfl, rfl⟩
theorem bit4D : Statement .bit4D := fun _ => ⟨_, _, rfl, rfl⟩
theorem bit4E : Statement .bit4E := fun _ => ⟨_, _, rfl, rfl⟩
theorem bit4H : Statement .bit4H := fun _ => ⟨_, _, rfl, rfl⟩
theorem bit4L : Statement .bit4L := fun _ => ⟨_, _, rfl, rfl⟩
theorem bit4IndHl : Statement .bit4IndHl := fun _ => ⟨_, _, rfl, rfl⟩
theorem bit4A : Statement .bit4A := fun _ => ⟨_, _, rfl, rfl⟩
theorem bit5B : Statement .bit5B := fun _ => ⟨_, _, rfl, rfl⟩
theorem bit5C : Statement .bit5C := fun _ => ⟨_, _, rfl, rfl⟩
theorem bit5D : Statement .bit5D := fun _ => ⟨_, _, rfl, rfl⟩
theorem bit5E : Statement .bit5E := fun _ => ⟨_, _, rfl, rfl⟩
theorem bit5H : Statement .bit5H := fun _ => ⟨_, _, rfl, rfl⟩
theorem bit5L : Statement .bit5L := fun _ => ⟨_, _, rfl, rfl⟩
theorem bit5IndHl : Statement .bit5IndHl := fun _ => ⟨_, _, rfl, rfl⟩
theorem bit5A : Statement .bit5A := fun _ => ⟨_, _, rfl, rfl⟩
theorem bit6B : Statement .bit6B := fun _ => ⟨_, _, rfl, rfl⟩
theorem bit6C : Statement .bit6C := fun _ => ⟨_, _, rfl, rfl⟩
theorem bit6D : Statement .bit6D := fun _ => ⟨_, _, rfl, rfl⟩
theorem bit6E : Statement .bit6E := fun _ => ⟨_, _, rfl, rfl⟩
theorem bit6H : Statement .bit6H := fun _ => ⟨_, _, rfl, rfl⟩
theorem bit6L : Statement .bit6L := fun _ => ⟨_, _, rfl, rfl⟩
theorem bit6IndHl : Statement .bit6IndHl := fun _ => ⟨_, _, rfl, rfl⟩
theorem bit6A : Statement .bit6A := fun _ => ⟨_, _, rfl, rfl⟩
theorem bit7B : Statement .bit7B := fun _ => ⟨_, _, rfl, rfl⟩
theorem bit7C : Statement .bit7C := fun _ => ⟨_, _, rfl, rfl⟩
theorem bit7D : Statement .bit7D := fun _ => ⟨_, _, rfl, rfl⟩
theorem bit7E : Statement .bit7E := fun _ => ⟨_, _, rfl, rfl⟩
theorem bit7H : Statement .bit7H := fun _ => ⟨_, _, rfl, rfl⟩
theorem bit7L : Statement .bit7L := fun _ => ⟨_, _, rfl, rfl⟩
theorem bit7IndHl : Statement .bit7IndHl := fun _ => ⟨_, _, rfl, rfl⟩
theorem bit7A : Statement .bit7A := fun _ => ⟨_, _, rfl, rfl⟩
theorem res0B : Statement .res0B := fun _ => ⟨_, _, rfl, rfl⟩
theorem res0C : Statement .res0C := fun _ => ⟨_, _, rfl, rfl⟩
theorem res0D : Statement .res0D := fun _ => ⟨_, _, rfl, rfl⟩
theorem res0E : Statement .res0E := fun _ => ⟨_, _, rfl, rfl⟩
theorem res0H : Statement .res0H := fun _ => ⟨_, _, rfl, rfl⟩
theorem res0L : Statement .res0L := fun _ => ⟨_, _, rfl, rfl⟩
theorem res0IndHl : Statement .res0IndHl := fun _ => ⟨_, _, rfl, rfl⟩
theorem res0A : Statement .res0A := fun _ => ⟨_, _, rfl, rfl⟩
theorem res1B : Statement .res1B := fun _ => ⟨_, _, rfl, rfl⟩
theorem res1C : Statement .res1C := fun _ => ⟨_, _, rfl, rfl⟩
theorem res1D : Statement .res1D := fun _ => ⟨_, _, rfl, rfl⟩
theorem res1E : Statement .res1E := fun _ => ⟨_, _, rfl, rfl⟩
theorem res1H : Statement .res1H := fun _ => ⟨_, _, rfl, rfl⟩
theorem res1L : Statement .res1L := fun _ => ⟨_, _, rfl, rfl⟩
theorem res1IndHl : Statement .res1IndHl := fun _ => ⟨_, _, rfl, rfl⟩
theorem res1A : Statement .res1A := fun _ => ⟨_, _, rfl, rfl⟩
theorem res2B : Statement .res2B := fun _ => ⟨_, _, rfl, rfl⟩
theorem res2C : Statement .res2C := fun _ => ⟨_, _, rfl, rfl⟩
theorem res2D : Statement .res2D := fun _ => ⟨_, _, rfl, rfl⟩
theorem res2E : Statement .res2E := fun _ => ⟨_, _, rfl, rfl⟩
theorem res2H : Statement .res2H := fun _ => ⟨_, _, rfl, rfl⟩
theorem res2L : Statement .res2L := fun _ => ⟨_, _, rfl, rfl⟩
theorem res2IndHl : Statement .res2IndHl := fun _ => ⟨_, _, rfl, rfl⟩
theorem res2A : Statement .res2A := fun _ => ⟨_, _, rfl, rfl⟩
theorem res3B : Statement .res3B := fun _ => ⟨_, _, rfl, rfl⟩
theorem res3C : Statement .res3C := fun _ => ⟨_, _, rfl, rfl⟩
theorem res3D : Statement .res3D := fun _ => ⟨_, _, rfl, rfl⟩
theorem res3E : Statement .res3E := fun _ => ⟨_, _, rfl, rfl⟩
theorem res3H : Statement .res3H := fun _ => ⟨_, _, rfl, rfl⟩
theorem res3L : Statement .res3L := fun _ => ⟨_, _, rfl, rfl⟩
theorem res3IndHl : Statement .res3IndHl := fun _ => ⟨_, _, rfl, rfl⟩
theorem res3A : Statement .res3A := fun _ => ⟨_, _, rfl, rfl⟩
theorem res4B : Statement .res4B := fun _ => ⟨_, _, rfl, rfl⟩
theorem res4C : Statement .res4C := fun _ => ⟨_, _, rfl, rfl⟩
theorem res4D : Statement .res4D := fun _ => ⟨_, _, rfl, rfl⟩
theorem res4E : Statement .res4E := fun _ => ⟨_, _, rfl, rfl⟩
theorem res4H : Statement .res4H := fun _ => ⟨_, _, rfl, rfl⟩
theorem res4L : Statement .res4L := fun _ => ⟨_, _, rfl, rfl⟩
theorem res4IndHl : Statement .res4IndHl := fun _ => ⟨_, _, rfl, rfl⟩
theorem res4A : Statement .res4A := fun _ => ⟨_, _, rfl, rfl⟩
theorem res5B : Statement .res5B := fun _ => ⟨_, _, rfl, rfl⟩
theorem res5C : Statement .res5C := fun _ => ⟨_, _, rfl, rfl⟩
theorem res5D : Statement .res5D := fun _ => ⟨_, _, rfl, rfl⟩
theorem res5E : Statement .res5E := fun _ => ⟨_, _, rfl, rfl⟩
theorem res5H : Statement .res5H := fun _ => ⟨_, _, rfl, rfl⟩
theorem res5L : Statement .res5L := fun _ => ⟨_, _, rfl, rfl⟩
theorem res5IndHl : Statement .res5IndHl := fun _ => ⟨_, _, rfl, rfl⟩
theorem res5A : Statement .res5A := fun _ => ⟨_, _, rfl, rfl⟩
theorem res6B : Statement .res6B := fun _ => ⟨_, _, rfl, rfl⟩
theorem res6C : Statement .res6C := fun _ => ⟨_, _, rfl, rfl⟩
theorem res6D : Statement .res6D := fun _ => ⟨_, _, rfl, rfl⟩
theorem res6E : Statement .res6E := fun _ => ⟨_, _, rfl, rfl⟩
theorem res6H : Statement .res6H := fun _ => ⟨_, _, rfl, rfl⟩
theorem res6L : Statement .res6L := fun _ => ⟨_, _, rfl, rfl⟩
theorem res6IndHl : Statement .res6IndHl := fun _ => ⟨_, _, rfl, rfl⟩
theorem res6A : Statement .res6A := fun _ => ⟨_, _, rfl, rfl⟩
theorem res7B : Statement .res7B := fun _ => ⟨_, _, rfl, rfl⟩
theorem res7C : Statement .res7C := fun _ => ⟨_, _, rfl, rfl⟩
theorem res7D : Statement .res7D := fun _ => ⟨_, _, rfl, rfl⟩
theorem res7E : Statement .res7E := fun _ => ⟨_, _, rfl, rfl⟩
theorem res7H : Statement .res7H := fun _ => ⟨_, _, rfl, rfl⟩
theorem res7L : Statement .res7L := fun _ => ⟨_, _, rfl, rfl⟩
theorem res7IndHl : Statement .res7IndHl := fun _ => ⟨_, _, rfl, rfl⟩
theorem res7A : Statement .res7A := fun _ => ⟨_, _, rfl, rfl⟩
theorem set0B : Statement .set0B := fun _ => ⟨_, _, rfl, rfl⟩
theorem set0C : Statement .set0C := fun _ => ⟨_, _, rfl, rfl⟩
theorem set0D : Statement .set0D := fun _ => ⟨_, _, rfl, rfl⟩
theorem set0E : Statement .set0E := fun _ => ⟨_, _, rfl, rfl⟩
theorem set0H : Statement .set0H := fun _ => ⟨_, _, rfl, rfl⟩
theorem set0L : Statement .set0L := fun _ => ⟨_, _, rfl, rfl⟩
theorem set0IndHl : Statement .set0IndHl := fun _ => ⟨_, _, rfl, rfl⟩
theorem set0A : Statement .set0A := fun _ => ⟨_, _, rfl, rfl⟩
theorem set1B : Statement .set1B := fun _ => ⟨_, _, rfl, rfl⟩
theorem set1C : Statement .set1C := fun _ => ⟨_, _, rfl, rfl⟩
theorem set1D : Statement .set1D := fun _ => ⟨_, _, rfl, rfl⟩
theorem set1E : Statement .set1E := fun _ => ⟨_, _, rfl, rfl⟩
theorem set1H : Statement .set1H := fun _ => ⟨_, _, rfl, rfl⟩
theorem set1L : Statement .set1L := fun _ => ⟨_, _, rfl, rfl⟩
theorem set1IndHl : Statement .set1IndHl := fun _ => ⟨_, _, rfl, rfl⟩
theorem set1A : Statement .set1A := fun _ => ⟨_, _, rfl, rfl⟩
theorem set2B : Statement .set2B := fun _ => ⟨_, _, rfl, rfl⟩
theorem set2C : Statement .set2C := fun _ => ⟨_, _, rfl, rfl⟩
theorem set2D : Statement .set2D := fun _ => ⟨_, _, rfl, rfl⟩
theorem set2E : Statement .set2E := fun _ => ⟨_, _, rfl, rfl⟩
theorem set2H : Statement .set2H := fun _ => ⟨_, _, rfl, rfl⟩
theorem set2L : Statement .set2L := fun _ => ⟨_, _, rfl, rfl⟩
theorem set2IndHl : Statement .set2IndHl := fun _ => ⟨_, _, rfl, rfl⟩
theorem set2A : Statement .set2A := fun _ => ⟨_, _, rfl, rfl⟩
theorem set3B : Statement .set3B := fun _ => ⟨_, _, rfl, rfl⟩
theorem set3C : Statement .set3C := fun _ => ⟨_, _, rfl, rfl⟩
theorem set3D : Statement .set3D := fun _ => ⟨_, _, rfl, rfl⟩
theorem set3E : Statement .set3E := fun _ => ⟨_, _, rfl, rfl⟩
theorem set3H : Statement .set3H := fun _ => ⟨_, _, rfl, rfl⟩
theorem set3L : Statement .set3L := fun _ => ⟨_, _, rfl, rfl⟩
theorem set3IndHl : Statement .set3IndHl := fun _ => ⟨_, _, rfl, rfl⟩
theorem set3A : Statement .set3A := fun _ => ⟨_, _, rfl, rfl⟩
theorem set4B : Statement .set4B := fun _ => ⟨_, _, rfl, rfl⟩
theorem set4C : Statement .set4C := fun _ => ⟨_, _, rfl, rfl⟩
theorem set4D : Statement .set4D := fun _ => ⟨_, _, rfl, rfl⟩
theorem set4E : Statement .set4E := fun _ => ⟨_, _, rfl, rfl⟩
theorem set4H : Statement .set4H := fun _ => ⟨_, _, rfl, rfl⟩
theorem set4L : Statement .set4L := fun _ => ⟨_, _, rfl, rfl⟩
theorem set4IndHl : Statement .set4IndHl := fun _ => ⟨_, _, rfl, rfl⟩
theorem set4A : Statement .set4A := fun _ => ⟨_, _, rfl, rfl⟩
theorem set5B : Statement .set5B := fun _ => ⟨_, _, rfl, rfl⟩
theorem set5C : Statement .set5C := fun _ => ⟨_, _, rfl, rfl⟩
theorem set5D : Statement .set5D := fun _ => ⟨_, _, rfl, rfl⟩
theorem set5E : Statement .set5E := fun _ => ⟨_, _, rfl, rfl⟩
theorem set5H : Statement .set5H := fun _ => ⟨_, _, rfl, rfl⟩
theorem set5L : Statement .set5L := fun _ => ⟨_, _, rfl, rfl⟩
theorem set5IndHl : Statement .set5IndHl := fun _ => ⟨_, _, rfl, rfl⟩
theorem set5A : Statement .set5A := fun _ => ⟨_, _, rfl, rfl⟩
theorem set6B : Statement .set6B := fun _ => ⟨_, _, rfl, rfl⟩
theorem set6C : Statement .set6C := fun _ => ⟨_, _, rfl, rfl⟩
theorem set6D : Statement .set6D := fun _ => ⟨_, _, rfl, rfl⟩
theorem set6E : Statement .set6E := fun _ => ⟨_, _, rfl, rfl⟩
theorem set6H : Statement .set6H := fun _ => ⟨_, _, rfl, rfl⟩
theorem set6L : Statement .set6L := fun _ => ⟨_, _, rfl, rfl⟩
theorem set6IndHl : Statement .set6IndHl := fun _ => ⟨_, _, rfl, rfl⟩
theorem set6A : Statement .set6A := fun _ => ⟨_, _, rfl, rfl⟩
theorem set7B : Statement .set7B := fun _ => ⟨_, _, rfl, rfl⟩
theorem set7C : Statement .set7C := fun _ => ⟨_, _, rfl, rfl⟩
theorem set7D : Statement .set7D := fun _ => ⟨_, _, rfl, rfl⟩
theorem set7E : Statement .set7E := fun _ => ⟨_, _, rfl, rfl⟩
theorem set7H : Statement .set7H := fun _ => ⟨_, _, rfl, rfl⟩
theorem set7L : Statement .set7L := fun _ => ⟨_, _, rfl, rfl⟩
theorem set7IndHl : Statement .set7IndHl := fun _ => ⟨_, _, rfl, rfl⟩
theorem set7A : Statement .set7A := fun _ => ⟨_, _, rfl, rfl⟩

end Sys2Proof.Laws.EncodedLength
end

