-- ==== Sys2Proof/Tests/Slice0.lean ====
section
/-! SUPPORT. The model's own tests. Expected values come from spec/95_test_vectors.md (the vector's number is in each
comment) or from the encodings of the instruction rules; each is about one step. After them, for every obligation with
hypotheses, a witness that meets them. -/

namespace Sys2Proof.Tests

open Machine

/-- `s` with the bytes of a test at `x` and PC there. -/
def placed (x : Word) (bs : List Byte) (s : State) : State := { s with pc := x, mem := placeBytes s.mem x bs }

/-- `s` with one byte of memory set. -/
def withByte (x : Word) (v : Byte) (s : State) : State := { s with mem := Memory.set s.mem x.toNat v }

/-- The byte at `x`. -/
def seenByte (t : State) (x : Word) : Byte := Memory.get t.mem x.toNat

/-- Some fields of the next state, if there is one. -/
def seen {α : Type} (o : Out) (f : State → α) : Option α :=
  match o with
  | .next t => some (f t)
  | _ => none

/-- Some fields of the state a fault leaves, with its code, if there is one. -/
def seenFault {α : Type} (o : Out) (f : State → α) : Option (Nat × α) :=
  match o with
  | .fault x => (faultCode x).bind fun n => (faultLeft x).map fun t => (n, f t)
  | _ => none

/-! Well-formedness, memory, encodings -/

/-- The one term that is not an instruction by itself (R225). -/
theorem test_wf_refuses_prefix_row : Instr.wf .prefixCb = false := by decide

theorem test_wf_accepts_extended : Instr.wf .bit7H = true := by decide

theorem test_reset_memory_is_canonical : Memory.wf State.reset.mem = true := by decide

/-- Writing the value an unlisted address reads as removes the entry. -/
theorem test_memory_set_unlisted_removes : Memory.set [(0xC000, 0x12#8)] 0xC000 0x00#8 = [] := by decide

theorem test_memory_wf_refuses_unsorted : Memory.wf [(2, 0x01#8), (1, 0x01#8)] = false := by decide

theorem test_memory_wf_refuses_unlisted_value : Memory.wf [(2, 0x00#8)] = false := by decide

/-- R101: 01 dst src, B = 000, C = 001. -/
theorem test_decode_ld_b_c : decode [0b01000001#8] = .ok (.ldBC, []) := rfl

/-- R131: 00 pp 0001, SP = 11, low byte first. -/
theorem test_decode_ld_sp_d16 : decode [0b00110001#8, 0xFE#8, 0xFF#8, 0xAA#8] = .ok (.ldSpD16 0xFFFE#16, [0xAA#8]) := rfl

/-- R134: 11 pp 0101, AF = 11. -/
theorem test_decode_push_af : decode [0b11110101#8] = .ok (.pushAf, []) := rfl

/-- R145: 10 011 zzz, H = 100. -/
theorem test_decode_sbc_a_h : decode [0b10011100#8] = .ok (.sbcAH, []) := rfl

/-- R171: 00 pp 1001, SP = 11. -/
theorem test_decode_add_hl_sp : decode [0b00111001#8] = .ok (.addHlSp, []) := rfl

/-- R191: CB, then 00 110 zzz, A = 111. -/
theorem test_decode_swap_a : decode [0xCB#8, 0b00110111#8] = .ok (.swapA, []) := rfl

/-- R193: CB, then 01 bbb zzz, H = 100. -/
theorem test_decode_bit_7_h : decode [0xCB#8, 0b01111100#8] = .ok (.bit7H, []) := rfl

/-- R207: 11 0cc 100, NC = 10. -/
theorem test_decode_call_nc : decode [0b11010100#8, 0x34#8, 0x12#8] = .ok (.callNcA16 0x1234#16, []) := rfl

/-- R222: STOP takes a second byte. -/
theorem test_decode_stop : decode [0b00010000#8, 0x55#8] = .ok (.stop 0x55#8, []) := rfl

/-- R221: the diagonal slot 01 110 110 is HALT. -/
theorem test_decode_halt : decode [0b01110110#8] = .ok (.halt, []) := rfl

/-- R226. -/
theorem test_decode_unresolved : decode [0xD3#8] = .ok (.illegalD3, []) := rfl

/-- An instruction cut short is refused. -/
theorem test_decode_truncated : decode [0xC3#8, 0x00#8] = .error (.truncated 0xC3#8) := rfl

/-- The table's word of SET 7,A is 0xCBFF. -/
theorem test_decode_table_word_extended : decodeTableWord 16 0xCBFF = some .set7A := by decide

theorem test_decode_table_word_operand_zero : decodeTableWord 8 0xC3 = some (.jpA16 0x0000#16) := by decide

/-- The placed word is the first thing that runs after reset. -/
theorem test_with_fetch_word_runs :
    step (State.reset.withFetchWord 16 0xCBFF) =
      exec .set7A { State.reset.withFetchWord 16 0xCBFF with pc := 0x0002#16 } := by rfl

/-! The vectors of spec/95_test_vectors.md -/

/-- V1: LD B,C -/
theorem test_v1_ld_b_c :
    seen (step (placed 0x0100#16 [0x41#8] { State.reset with b := 0x11#8, c := 0x22#8 })) (fun t => (t.b, t.f, t.pc, t.clk.m)) =
    some (0x22#8, 0x00#8, 0x0101#16, 1) := by decide

/-- V3: LD D,0x9C -/
theorem test_v3_ld_d_0x9c :
    seen (step (placed 0x0100#16 [0x16#8, 0x9C#8] State.reset)) (fun t => (t.d, t.f, t.pc, t.clk.m)) =
    some (0x9C#8, 0x00#8, 0x0102#16, 2) := by decide

/-- V4: LD E,(HL) -/
theorem test_v4_ld_e_hl :
    seen (step (placed 0x0100#16 [0x5E#8] (withByte 0xC123#16 0x77#8 { State.reset with h := 0xC1#8, l := 0x23#8 }))) (fun t => (t.e, t.f, t.pc, t.clk.m)) =
    some (0x77#8, 0x00#8, 0x0101#16, 2) := by decide

/-- V5: LD (HL),L -/
theorem test_v5_ld_hl_l :
    seen (step (placed 0x0100#16 [0x75#8] { State.reset with h := 0xC0#8, l := 0xDE#8 })) (fun t => (seenByte t 0xC0DE#16, t.f, t.pc, t.clk.m)) =
    some (0xDE#8, 0x00#8, 0x0101#16, 2) := by decide

/-- V6: LD (HL),0x5A -/
theorem test_v6_ld_hl_0x5a :
    seen (step (placed 0x0100#16 [0x36#8, 0x5A#8] { State.reset with h := 0xC0#8, l := 0x00#8 })) (fun t => (seenByte t 0xC000#16, t.f, t.pc, t.clk.m)) =
    some (0x5A#8, 0x00#8, 0x0102#16, 3) := by decide

/-- V7: LD A,(BC) -/
theorem test_v7_ld_a_bc :
    seen (step (placed 0x0100#16 [0x0A#8] (withByte 0xC010#16 0x99#8 { State.reset with b := 0xC0#8, c := 0x10#8 }))) (fun t => (t.a, t.f, t.pc, t.clk.m)) =
    some (0x99#8, 0x00#8, 0x0101#16, 2) := by decide

/-- V8: LD (DE),A -/
theorem test_v8_ld_de_a :
    seen (step (placed 0x0100#16 [0x12#8] { State.reset with a := 0x42#8, d := 0xC0#8, e := 0x20#8 })) (fun t => (seenByte t 0xC020#16, t.f, t.pc, t.clk.m)) =
    some (0x42#8, 0x00#8, 0x0101#16, 2) := by decide

/-- V9: LD A,(0xC055) -/
theorem test_v9_ld_a_0xc055 :
    seen (step (placed 0x0100#16 [0xFA#8, 0x55#8, 0xC0#8] (withByte 0xC055#16 0xAB#8 State.reset))) (fun t => (t.a, t.f, t.pc, t.clk.m)) =
    some (0xAB#8, 0x00#8, 0x0103#16, 4) := by decide

/-- V10: LD (0xC000),A -/
theorem test_v10_ld_0xc000_a :
    seen (step (placed 0x0100#16 [0xEA#8, 0x00#8, 0xC0#8] { State.reset with a := 0x42#8 })) (fun t => (seenByte t 0xC000#16, t.f, t.pc, t.clk.m)) =
    some (0x42#8, 0x00#8, 0x0103#16, 4) := by decide

/-- V11: LDH (0x80),A -/
theorem test_v11_ldh_0x80_a :
    seen (step (placed 0x0100#16 [0xE0#8, 0x80#8] { State.reset with a := 0x3C#8 })) (fun t => (seenByte t 0xFF80#16, t.f, t.pc, t.clk.m)) =
    some (0x3C#8, 0x00#8, 0x0102#16, 3) := by decide

/-- V12: LDH A,(0xFF) -/
theorem test_v12_ldh_a_0xff :
    seen (step (placed 0x0100#16 [0xF0#8, 0xFF#8] (withByte 0xFFFF#16 0x1F#8 State.reset))) (fun t => (t.a, t.f, t.pc, t.clk.m)) =
    some (0x1F#8, 0x00#8, 0x0102#16, 3) := by decide

/-- V13: LDH (C),A -/
theorem test_v13_ldh_c_a :
    seen (step (placed 0x0100#16 [0xE2#8] { State.reset with a := 0x77#8, c := 0x44#8 })) (fun t => (seenByte t 0xFF44#16, t.f, t.pc, t.clk.m)) =
    some (0x77#8, 0x00#8, 0x0101#16, 2) := by decide

/-- V14: LDH A,(C) -/
theorem test_v14_ldh_a_c :
    seen (step (placed 0x0100#16 [0xF2#8] (withByte 0xFF00#16 0xCF#8 { State.reset with c := 0x00#8 }))) (fun t => (t.a, t.f, t.pc, t.clk.m)) =
    some (0xCF#8, 0x00#8, 0x0101#16, 2) := by decide

/-- V15: LD (HL+),A -/
theorem test_v15_ld_hl_a :
    seen (step (placed 0x0100#16 [0x22#8] { State.reset with a := 0x01#8, h := 0xFF#8, l := 0xFF#8 })) (fun t => (seenByte t 0xFFFF#16, t.hl, t.f, t.pc, t.clk.m)) =
    some (0x01#8, 0x0000#16, 0x00#8, 0x0101#16, 2) := by decide

/-- V16: LD A,(HL-) -/
theorem test_v16_ld_a_hl :
    seen (step (placed 0x0100#16 [0x3A#8] (withByte 0x0000#16 0x3A#8 { State.reset with h := 0x00#8, l := 0x00#8 }))) (fun t => (t.a, t.hl, t.f, t.pc, t.clk.m)) =
    some (0x3A#8, 0xFFFF#16, 0x00#8, 0x0101#16, 2) := by decide

/-- V17: LD A,(HL+) -/
theorem test_v17_ld_a_hl :
    seen (step (placed 0x0100#16 [0x2A#8] (withByte 0xC0FF#16 0x12#8 { State.reset with h := 0xC0#8, l := 0xFF#8 }))) (fun t => (t.a, t.hl, t.f, t.pc, t.clk.m)) =
    some (0x12#8, 0xC100#16, 0x00#8, 0x0101#16, 2) := by decide

/-- V18: LD (HL-),A -/
theorem test_v18_ld_hl_a :
    seen (step (placed 0x0100#16 [0x32#8] { State.reset with a := 0xEE#8, h := 0xC1#8, l := 0x00#8 })) (fun t => (seenByte t 0xC100#16, t.hl, t.f, t.pc, t.clk.m)) =
    some (0xEE#8, 0xC0FF#16, 0x00#8, 0x0101#16, 2) := by decide

/-- V20: LD BC,0x1234 -/
theorem test_v20_ld_bc_0x1234 :
    seen (step (placed 0x0100#16 [0x01#8, 0x34#8, 0x12#8] State.reset)) (fun t => (t.b, t.c, t.f, t.pc, t.clk.m)) =
    some (0x12#8, 0x34#8, 0x00#8, 0x0103#16, 3) := by decide

/-- V21: LD SP,0xFFFE -/
theorem test_v21_ld_sp_0xfffe :
    seen (step (placed 0x0100#16 [0x31#8, 0xFE#8, 0xFF#8] State.reset)) (fun t => (t.sp, t.f, t.pc, t.clk.m)) =
    some (0xFFFE#16, 0x00#8, 0x0103#16, 3) := by decide

/-- V22: LD (0xC100),SP -/
theorem test_v22_ld_0xc100_sp :
    seen (step (placed 0x0100#16 [0x08#8, 0x00#8, 0xC1#8] { State.reset with sp := 0xFFF8#16 })) (fun t => (seenByte t 0xC100#16, seenByte t 0xC101#16, t.f, t.pc, t.clk.m)) =
    some (0xF8#8, 0xFF#8, 0x00#8, 0x0103#16, 5) := by decide

/-- V23: LD (0xFFFF),SP -/
theorem test_v23_ld_0xffff_sp :
    seen (step (placed 0x0100#16 [0x08#8, 0xFF#8, 0xFF#8] { State.reset with sp := 0x1234#16 })) (fun t => (seenByte t 0xFFFF#16, seenByte t 0x0000#16, t.f, t.pc, t.clk.m)) =
    some (0x34#8, 0x12#8, 0x00#8, 0x0103#16, 5) := by decide

/-- V24: LD SP,HL -/
theorem test_v24_ld_sp_hl :
    seen (step (placed 0x0100#16 [0xF9#8] { State.reset with h := 0xD0#8, l := 0x00#8 })) (fun t => (t.sp, t.f, t.pc, t.clk.m)) =
    some (0xD000#16, 0x00#8, 0x0101#16, 2) := by decide

/-- V25: PUSH BC -/
theorem test_v25_push_bc :
    seen (step (placed 0x0100#16 [0xC5#8] { State.reset with b := 0x12#8, c := 0x34#8, sp := 0xFFFE#16 })) (fun t => (seenByte t 0xFFFD#16, seenByte t 0xFFFC#16, t.sp, t.f, t.pc, t.clk.m)) =
    some (0x12#8, 0x34#8, 0xFFFC#16, 0x00#8, 0x0101#16, 4) := by decide

/-- V26: PUSH DE -/
theorem test_v26_push_de :
    seen (step (placed 0x0100#16 [0xD5#8] { State.reset with d := 0xAB#8, e := 0xCD#8, sp := 0x0001#16 })) (fun t => (seenByte t 0x0000#16, seenByte t 0xFFFF#16, t.sp, t.f, t.pc, t.clk.m)) =
    some (0xAB#8, 0xCD#8, 0xFFFF#16, 0x00#8, 0x0101#16, 4) := by decide

/-- V27: PUSH AF -/
theorem test_v27_push_af :
    seen (step (placed 0x0100#16 [0xF5#8] { State.reset with a := 0x12#8, f := 0xB0#8, sp := 0xD000#16 })) (fun t => (seenByte t 0xCFFF#16, seenByte t 0xCFFE#16, t.sp, t.f, t.pc, t.clk.m)) =
    some (0x12#8, 0xB0#8, 0xCFFE#16, 0xB0#8, 0x0101#16, 4) := by decide

/-- V28: POP DE -/
theorem test_v28_pop_de :
    seen (step (placed 0x0100#16 [0xD1#8] (withByte 0xFFFD#16 0x12#8 (withByte 0xFFFC#16 0x34#8 { State.reset with sp := 0xFFFC#16 })))) (fun t => (t.d, t.e, t.sp, t.f, t.pc, t.clk.m)) =
    some (0x12#8, 0x34#8, 0xFFFE#16, 0x00#8, 0x0101#16, 3) := by decide

/-- V29: POP AF -/
theorem test_v29_pop_af :
    seen (step (placed 0x0100#16 [0xF1#8] (withByte 0xC001#16 0x12#8 (withByte 0xC000#16 0xFF#8 { State.reset with sp := 0xC000#16 })))) (fun t => (t.a, t.f, t.sp, t.pc, t.clk.m)) =
    some (0x12#8, 0xF0#8, 0xC002#16, 0x0101#16, 3) := by decide

/-- V30: POP HL -/
theorem test_v30_pop_hl :
    seen (step (placed 0x0100#16 [0xE1#8] (withByte 0x0000#16 0xAB#8 (withByte 0xFFFF#16 0xCD#8 { State.reset with sp := 0xFFFF#16 })))) (fun t => (t.h, t.l, t.sp, t.f, t.pc, t.clk.m)) =
    some (0xAB#8, 0xCD#8, 0x0001#16, 0x00#8, 0x0101#16, 3) := by decide

/-- V33: LD HL,SP-1 -/
theorem test_v33_ld_hl_sp_1 :
    seen (step (placed 0x0100#16 [0xF8#8, 0xFF#8] { State.reset with sp := 0x0001#16 })) (fun t => (t.hl, t.f, t.pc, t.clk.m)) =
    some (0x0000#16, 0x30#8, 0x0102#16, 3) := by decide

/-- V35: LD HL,SP+1 -/
theorem test_v35_ld_hl_sp_1 :
    seen (step (placed 0x0100#16 [0xF8#8, 0x01#8] { State.reset with sp := 0x000F#16 })) (fun t => (t.hl, t.f, t.pc, t.clk.m)) =
    some (0x0010#16, 0x20#8, 0x0102#16, 3) := by decide

/-- V40: ADD A,B -/
theorem test_v40_add_a_b :
    seen (step (placed 0x0100#16 [0x80#8] { State.reset with a := 0x3A#8, b := 0xC6#8 })) (fun t => (t.a, t.f, t.pc, t.clk.m)) =
    some (0x00#8, 0xB0#8, 0x0101#16, 1) := by decide

/-- V41: ADD A,0x01 -/
theorem test_v41_add_a_0x01 :
    seen (step (placed 0x0100#16 [0xC6#8, 0x01#8] { State.reset with a := 0xFF#8 })) (fun t => (t.a, t.f, t.pc, t.clk.m)) =
    some (0x00#8, 0xB0#8, 0x0102#16, 2) := by decide

/-- V43: ADD A,A -/
theorem test_v43_add_a_a :
    seen (step (placed 0x0100#16 [0x87#8] { State.reset with a := 0x80#8 })) (fun t => (t.a, t.f, t.pc, t.clk.m)) =
    some (0x00#8, 0x90#8, 0x0101#16, 1) := by decide

/-- V45: ADC A,E -/
theorem test_v45_adc_a_e :
    seen (step (placed 0x0100#16 [0x8B#8] { State.reset with a := 0xE1#8, e := 0x0F#8, f := 0x10#8 })) (fun t => (t.a, t.f, t.pc, t.clk.m)) =
    some (0xF1#8, 0x20#8, 0x0101#16, 1) := by decide

/-- V46: ADC A,0x00 -/
theorem test_v46_adc_a_0x00 :
    seen (step (placed 0x0100#16 [0xCE#8, 0x00#8] { State.reset with a := 0xFF#8, f := 0x10#8 })) (fun t => (t.a, t.f, t.pc, t.clk.m)) =
    some (0x00#8, 0xB0#8, 0x0102#16, 2) := by decide

/-- V48: ADC A,A -/
theorem test_v48_adc_a_a :
    seen (step (placed 0x0100#16 [0x8F#8] { State.reset with a := 0x80#8, f := 0x10#8 })) (fun t => (t.a, t.f, t.pc, t.clk.m)) =
    some (0x01#8, 0x10#8, 0x0101#16, 1) := by decide

/-- V49: SUB A,0x0F -/
theorem test_v49_sub_a_0x0f :
    seen (step (placed 0x0100#16 [0xD6#8, 0x0F#8] { State.reset with a := 0x3E#8 })) (fun t => (t.a, t.f, t.pc, t.clk.m)) =
    some (0x2F#8, 0x60#8, 0x0102#16, 2) := by decide

/-- V51: SUB A,A -/
theorem test_v51_sub_a_a :
    seen (step (placed 0x0100#16 [0x97#8] { State.reset with a := 0x77#8 })) (fun t => (t.a, t.f, t.pc, t.clk.m)) =
    some (0x00#8, 0xC0#8, 0x0101#16, 1) := by decide

/-- V52: SUB A,0x01 -/
theorem test_v52_sub_a_0x01 :
    seen (step (placed 0x0100#16 [0xD6#8, 0x01#8] { State.reset with a := 0x00#8 })) (fun t => (t.a, t.f, t.pc, t.clk.m)) =
    some (0xFF#8, 0x70#8, 0x0102#16, 2) := by decide

/-- V54: SBC A,H -/
theorem test_v54_sbc_a_h :
    seen (step (placed 0x0100#16 [0x9C#8] { State.reset with a := 0x3B#8, h := 0x2A#8, f := 0x10#8 })) (fun t => (t.a, t.f, t.pc, t.clk.m)) =
    some (0x10#8, 0x40#8, 0x0101#16, 1) := by decide

/-- V55: SBC A,0xFF -/
theorem test_v55_sbc_a_0xff :
    seen (step (placed 0x0100#16 [0xDE#8, 0xFF#8] { State.reset with a := 0x00#8, f := 0x10#8 })) (fun t => (t.a, t.f, t.pc, t.clk.m)) =
    some (0x00#8, 0xF0#8, 0x0102#16, 2) := by decide

/-- V56: SBC A,0x0F -/
theorem test_v56_sbc_a_0x0f :
    seen (step (placed 0x0100#16 [0xDE#8, 0x0F#8] { State.reset with a := 0x10#8, f := 0x10#8 })) (fun t => (t.a, t.f, t.pc, t.clk.m)) =
    some (0x00#8, 0xE0#8, 0x0102#16, 2) := by decide

/-- V58: AND A,L -/
theorem test_v58_and_a_l :
    seen (step (placed 0x0100#16 [0xA5#8] { State.reset with a := 0x5A#8, l := 0x3F#8 })) (fun t => (t.a, t.f, t.pc, t.clk.m)) =
    some (0x1A#8, 0x20#8, 0x0101#16, 1) := by decide

/-- V59: AND A,0x00 -/
theorem test_v59_and_a_0x00 :
    seen (step (placed 0x0100#16 [0xE6#8, 0x00#8] { State.reset with a := 0xFF#8, f := 0x50#8 })) (fun t => (t.a, t.f, t.pc, t.clk.m)) =
    some (0x00#8, 0xA0#8, 0x0102#16, 2) := by decide

/-- V60: XOR A,A -/
theorem test_v60_xor_a_a :
    seen (step (placed 0x0100#16 [0xAF#8] { State.reset with a := 0x99#8, f := 0x70#8 })) (fun t => (t.a, t.f, t.pc, t.clk.m)) =
    some (0x00#8, 0x80#8, 0x0101#16, 1) := by decide

/-- V62: OR A,0x03 -/
theorem test_v62_or_a_0x03 :
    seen (step (placed 0x0100#16 [0xF6#8, 0x03#8] { State.reset with a := 0x5A#8, f := 0xF0#8 })) (fun t => (t.a, t.f, t.pc, t.clk.m)) =
    some (0x5B#8, 0x00#8, 0x0102#16, 2) := by decide

/-- V63: OR A,A -/
theorem test_v63_or_a_a :
    seen (step (placed 0x0100#16 [0xB7#8] { State.reset with a := 0x00#8, f := 0x70#8 })) (fun t => (t.a, t.f, t.pc, t.clk.m)) =
    some (0x00#8, 0x80#8, 0x0101#16, 1) := by decide

/-- V64: CP A,B -/
theorem test_v64_cp_a_b :
    seen (step (placed 0x0100#16 [0xB8#8] { State.reset with a := 0x3C#8, b := 0x2F#8 })) (fun t => (t.a, t.f, t.pc, t.clk.m)) =
    some (0x3C#8, 0x60#8, 0x0101#16, 1) := by decide

/-- V65: CP A,0x3C -/
theorem test_v65_cp_a_0x3c :
    seen (step (placed 0x0100#16 [0xFE#8, 0x3C#8] { State.reset with a := 0x3C#8 })) (fun t => (t.a, t.f, t.pc, t.clk.m)) =
    some (0x3C#8, 0xC0#8, 0x0102#16, 2) := by decide

/-- V66: CP A,(HL) -/
theorem test_v66_cp_a_hl :
    seen (step (placed 0x0100#16 [0xBE#8] (withByte 0xC000#16 0x40#8 { State.reset with a := 0x3C#8, h := 0xC0#8, l := 0x00#8 }))) (fun t => (t.a, t.f, t.pc, t.clk.m)) =
    some (0x3C#8, 0x50#8, 0x0101#16, 2) := by decide

/-- V67: INC A -/
theorem test_v67_inc_a :
    seen (step (placed 0x0100#16 [0x3C#8] { State.reset with a := 0xFF#8, f := 0x10#8 })) (fun t => (t.a, t.f, t.pc, t.clk.m)) =
    some (0x00#8, 0xB0#8, 0x0101#16, 1) := by decide

/-- V69: INC (HL) -/
theorem test_v69_inc_hl :
    seen (step (placed 0x0100#16 [0x34#8] (withByte 0xC000#16 0x50#8 { State.reset with h := 0xC0#8, l := 0x00#8 }))) (fun t => (seenByte t 0xC000#16, t.f, t.pc, t.clk.m)) =
    some (0x51#8, 0x00#8, 0x0101#16, 3) := by decide

/-- V70: INC (HL) -/
theorem test_v70_inc_hl :
    seen (step (placed 0x0100#16 [0x34#8] (withByte 0xC000#16 0xFF#8 { State.reset with h := 0xC0#8, l := 0x00#8 }))) (fun t => (seenByte t 0xC000#16, t.f, t.pc, t.clk.m)) =
    some (0x00#8, 0xA0#8, 0x0101#16, 3) := by decide

/-- V71: DEC L -/
theorem test_v71_dec_l :
    seen (step (placed 0x0100#16 [0x2D#8] { State.reset with l := 0x01#8 })) (fun t => (t.l, t.f, t.pc, t.clk.m)) =
    some (0x00#8, 0xC0#8, 0x0101#16, 1) := by decide

/-- V72: DEC A -/
theorem test_v72_dec_a :
    seen (step (placed 0x0100#16 [0x3D#8] { State.reset with a := 0x00#8, f := 0x10#8 })) (fun t => (t.a, t.f, t.pc, t.clk.m)) =
    some (0xFF#8, 0x70#8, 0x0101#16, 1) := by decide

/-- V74: DEC (HL) -/
theorem test_v74_dec_hl :
    seen (step (placed 0x0100#16 [0x35#8] (withByte 0xC000#16 0x00#8 { State.reset with h := 0xC0#8, l := 0x00#8 }))) (fun t => (seenByte t 0xC000#16, t.f, t.pc, t.clk.m)) =
    some (0xFF#8, 0x60#8, 0x0101#16, 3) := by decide

/-- V77: DAA -/
theorem test_v77_daa :
    seen (step (placed 0x0100#16 [0x27#8] { State.reset with a := 0x9A#8, f := 0x00#8 })) (fun t => (t.a, t.f, t.pc, t.clk.m)) =
    some (0x00#8, 0x90#8, 0x0101#16, 1) := by decide

/-- V79: DAA -/
theorem test_v79_daa :
    seen (step (placed 0x0100#16 [0x27#8] { State.reset with a := 0x00#8, f := 0x70#8 })) (fun t => (t.a, t.f, t.pc, t.clk.m)) =
    some (0x9A#8, 0x50#8, 0x0101#16, 1) := by decide

/-- V81: CPL -/
theorem test_v81_cpl :
    seen (step (placed 0x0100#16 [0x2F#8] { State.reset with a := 0x35#8, f := 0x90#8 })) (fun t => (t.a, t.f, t.pc, t.clk.m)) =
    some (0xCA#8, 0xF0#8, 0x0101#16, 1) := by decide

/-- V82: SCF -/
theorem test_v82_scf :
    seen (step (placed 0x0100#16 [0x37#8] { State.reset with f := 0xE0#8 })) (fun t => (t.f, t.pc, t.clk.m)) =
    some (0x90#8, 0x0101#16, 1) := by decide

/-- V83: CCF -/
theorem test_v83_ccf :
    seen (step (placed 0x0100#16 [0x3F#8] { State.reset with f := 0xF0#8 })) (fun t => (t.f, t.pc, t.clk.m)) =
    some (0x80#8, 0x0101#16, 1) := by decide

/-- V90: ADD HL,BC -/
theorem test_v90_add_hl_bc :
    seen (step (placed 0x0100#16 [0x09#8] { State.reset with h := 0x8A#8, l := 0x23#8, b := 0x06#8, c := 0x05#8, f := 0xC0#8 })) (fun t => (t.hl, t.f, t.pc, t.clk.m)) =
    some (0x9028#16, 0xA0#8, 0x0101#16, 2) := by decide

/-- V91: ADD HL,HL -/
theorem test_v91_add_hl_hl :
    seen (step (placed 0x0100#16 [0x29#8] { State.reset with h := 0x8A#8, l := 0x23#8, f := 0x80#8 })) (fun t => (t.hl, t.f, t.pc, t.clk.m)) =
    some (0x1446#16, 0xB0#8, 0x0101#16, 2) := by decide

/-- V93: ADD HL,SP -/
theorem test_v93_add_hl_sp :
    seen (step (placed 0x0100#16 [0x39#8] { State.reset with h := 0xFF#8, l := 0xFF#8, sp := 0x0001#16 })) (fun t => (t.hl, t.f, t.pc, t.clk.m)) =
    some (0x0000#16, 0x30#8, 0x0101#16, 2) := by decide

/-- V95: INC BC -/
theorem test_v95_inc_bc :
    seen (step (placed 0x0100#16 [0x03#8] { State.reset with b := 0xFF#8, c := 0xFF#8, f := 0xF0#8 })) (fun t => (t.bc, t.f, t.pc, t.clk.m)) =
    some (0x0000#16, 0xF0#8, 0x0101#16, 2) := by decide

/-- V97: DEC DE -/
theorem test_v97_dec_de :
    seen (step (placed 0x0100#16 [0x1B#8] { State.reset with d := 0x00#8, e := 0x00#8 })) (fun t => (t.de, t.f, t.pc, t.clk.m)) =
    some (0xFFFF#16, 0x00#8, 0x0101#16, 2) := by decide

/-- V98: DEC HL -/
theorem test_v98_dec_hl :
    seen (step (placed 0x0100#16 [0x2B#8] { State.reset with h := 0x01#8, l := 0x00#8 })) (fun t => (t.hl, t.f, t.pc, t.clk.m)) =
    some (0x00FF#16, 0x00#8, 0x0101#16, 2) := by decide

/-- V100: ADD SP,-1 -/
theorem test_v100_add_sp_1 :
    seen (step (placed 0x0100#16 [0xE8#8, 0xFF#8] { State.reset with sp := 0x0001#16 })) (fun t => (t.sp, t.f, t.pc, t.clk.m)) =
    some (0x0000#16, 0x30#8, 0x0102#16, 4) := by decide

/-- V102: ADD SP,-128 -/
theorem test_v102_add_sp_128 :
    seen (step (placed 0x0100#16 [0xE8#8, 0x80#8] { State.reset with sp := 0x0080#16 })) (fun t => (t.sp, t.f, t.pc, t.clk.m)) =
    some (0x0000#16, 0x10#8, 0x0102#16, 4) := by decide

/-- V110: RLCA -/
theorem test_v110_rlca :
    seen (step (placed 0x0100#16 [0x07#8] { State.reset with a := 0x85#8, f := 0xF0#8 })) (fun t => (t.a, t.f, t.pc, t.clk.m)) =
    some (0x0B#8, 0x10#8, 0x0101#16, 1) := by decide

/-- V111: RLCA -/
theorem test_v111_rlca :
    seen (step (placed 0x0100#16 [0x07#8] { State.reset with a := 0x00#8, f := 0x80#8 })) (fun t => (t.a, t.f, t.pc, t.clk.m)) =
    some (0x00#8, 0x00#8, 0x0101#16, 1) := by decide

/-- V112: RRCA -/
theorem test_v112_rrca :
    seen (step (placed 0x0100#16 [0x0F#8] { State.reset with a := 0x01#8 })) (fun t => (t.a, t.f, t.pc, t.clk.m)) =
    some (0x80#8, 0x10#8, 0x0101#16, 1) := by decide

/-- V113: RLA -/
theorem test_v113_rla :
    seen (step (placed 0x0100#16 [0x17#8] { State.reset with a := 0x80#8, f := 0x00#8 })) (fun t => (t.a, t.f, t.pc, t.clk.m)) =
    some (0x00#8, 0x10#8, 0x0101#16, 1) := by decide

/-- V114: RLA -/
theorem test_v114_rla :
    seen (step (placed 0x0100#16 [0x17#8] { State.reset with a := 0x95#8, f := 0x10#8 })) (fun t => (t.a, t.f, t.pc, t.clk.m)) =
    some (0x2B#8, 0x10#8, 0x0101#16, 1) := by decide

/-- V115: RRA -/
theorem test_v115_rra :
    seen (step (placed 0x0100#16 [0x1F#8] { State.reset with a := 0x81#8, f := 0x00#8 })) (fun t => (t.a, t.f, t.pc, t.clk.m)) =
    some (0x40#8, 0x10#8, 0x0101#16, 1) := by decide

/-- V117: RLC B -/
theorem test_v117_rlc_b :
    seen (step (placed 0x0100#16 [0xCB#8, 0x00#8] { State.reset with b := 0x85#8 })) (fun t => (t.b, t.f, t.pc, t.clk.m)) =
    some (0x0B#8, 0x10#8, 0x0102#16, 2) := by decide

/-- V118: RLC C -/
theorem test_v118_rlc_c :
    seen (step (placed 0x0100#16 [0xCB#8, 0x01#8] { State.reset with c := 0x00#8, f := 0x10#8 })) (fun t => (t.c, t.f, t.pc, t.clk.m)) =
    some (0x00#8, 0x80#8, 0x0102#16, 2) := by decide

/-- V119: RRC (HL) -/
theorem test_v119_rrc_hl :
    seen (step (placed 0x0100#16 [0xCB#8, 0x0E#8] (withByte 0xC000#16 0x01#8 { State.reset with h := 0xC0#8, l := 0x00#8 }))) (fun t => (seenByte t 0xC000#16, t.f, t.pc, t.clk.m)) =
    some (0x80#8, 0x10#8, 0x0102#16, 4) := by decide

/-- V120: RL D -/
theorem test_v120_rl_d :
    seen (step (placed 0x0100#16 [0xCB#8, 0x12#8] { State.reset with d := 0x80#8, f := 0x00#8 })) (fun t => (t.d, t.f, t.pc, t.clk.m)) =
    some (0x00#8, 0x90#8, 0x0102#16, 2) := by decide

/-- V121: RL L -/
theorem test_v121_rl_l :
    seen (step (placed 0x0100#16 [0xCB#8, 0x15#8] { State.reset with l := 0x80#8, f := 0x10#8 })) (fun t => (t.l, t.f, t.pc, t.clk.m)) =
    some (0x01#8, 0x10#8, 0x0102#16, 2) := by decide

/-- V122: RR A -/
theorem test_v122_rr_a :
    seen (step (placed 0x0100#16 [0xCB#8, 0x1F#8] { State.reset with a := 0x01#8, f := 0x00#8 })) (fun t => (t.a, t.f, t.pc, t.clk.m)) =
    some (0x00#8, 0x90#8, 0x0102#16, 2) := by decide

/-- V123: RR E -/
theorem test_v123_rr_e :
    seen (step (placed 0x0100#16 [0xCB#8, 0x1B#8] { State.reset with e := 0x8A#8, f := 0x10#8 })) (fun t => (t.e, t.f, t.pc, t.clk.m)) =
    some (0xC5#8, 0x00#8, 0x0102#16, 2) := by decide

/-- V124: SLA D -/
theorem test_v124_sla_d :
    seen (step (placed 0x0100#16 [0xCB#8, 0x22#8] { State.reset with d := 0x80#8 })) (fun t => (t.d, t.f, t.pc, t.clk.m)) =
    some (0x00#8, 0x90#8, 0x0102#16, 2) := by decide

/-- V125: SLA A -/
theorem test_v125_sla_a :
    seen (step (placed 0x0100#16 [0xCB#8, 0x27#8] { State.reset with a := 0xFF#8 })) (fun t => (t.a, t.f, t.pc, t.clk.m)) =
    some (0xFE#8, 0x10#8, 0x0102#16, 2) := by decide

/-- V126: SRA A -/
theorem test_v126_sra_a :
    seen (step (placed 0x0100#16 [0xCB#8, 0x2F#8] { State.reset with a := 0x8A#8 })) (fun t => (t.a, t.f, t.pc, t.clk.m)) =
    some (0xC5#8, 0x00#8, 0x0102#16, 2) := by decide

/-- V128: SWAP A -/
theorem test_v128_swap_a :
    seen (step (placed 0x0100#16 [0xCB#8, 0x37#8] { State.reset with a := 0xF1#8, f := 0xF0#8 })) (fun t => (t.a, t.f, t.pc, t.clk.m)) =
    some (0x1F#8, 0x00#8, 0x0102#16, 2) := by decide

/-- V129: SWAP (HL) -/
theorem test_v129_swap_hl :
    seen (step (placed 0x0100#16 [0xCB#8, 0x36#8] (withByte 0xC000#16 0x00#8 { State.reset with h := 0xC0#8, l := 0x00#8, f := 0x10#8 }))) (fun t => (seenByte t 0xC000#16, t.f, t.pc, t.clk.m)) =
    some (0x00#8, 0x80#8, 0x0102#16, 4) := by decide

/-- V130: SRL A -/
theorem test_v130_srl_a :
    seen (step (placed 0x0100#16 [0xCB#8, 0x3F#8] { State.reset with a := 0x01#8 })) (fun t => (t.a, t.f, t.pc, t.clk.m)) =
    some (0x00#8, 0x90#8, 0x0102#16, 2) := by decide

/-- V132: BIT 7,H -/
theorem test_v132_bit_7_h :
    seen (step (placed 0x0100#16 [0xCB#8, 0x7C#8] { State.reset with h := 0x80#8, f := 0x10#8 })) (fun t => (t.f, t.pc, t.clk.m)) =
    some (0x30#8, 0x0102#16, 2) := by decide

/-- V133: BIT 7,H -/
theorem test_v133_bit_7_h :
    seen (step (placed 0x0100#16 [0xCB#8, 0x7C#8] { State.reset with h := 0x7F#8, f := 0x40#8 })) (fun t => (t.f, t.pc, t.clk.m)) =
    some (0xA0#8, 0x0102#16, 2) := by decide

/-- V134: BIT 0,(HL) -/
theorem test_v134_bit_0_hl :
    seen (step (placed 0x0100#16 [0xCB#8, 0x46#8] (withByte 0xC000#16 0xFE#8 { State.reset with h := 0xC0#8, l := 0x00#8 }))) (fun t => (t.f, t.pc, t.clk.m)) =
    some (0xA0#8, 0x0102#16, 3) := by decide

/-- V135: RES 0,(HL) -/
theorem test_v135_res_0_hl :
    seen (step (placed 0x0100#16 [0xCB#8, 0x86#8] (withByte 0xC000#16 0xFF#8 { State.reset with h := 0xC0#8, l := 0x00#8, f := 0xF0#8 }))) (fun t => (seenByte t 0xC000#16, t.f, t.pc, t.clk.m)) =
    some (0xFE#8, 0xF0#8, 0x0102#16, 4) := by decide

/-- V137: SET 7,A -/
theorem test_v137_set_7_a :
    seen (step (placed 0x0100#16 [0xCB#8, 0xFF#8] { State.reset with a := 0x00#8 })) (fun t => (t.a, t.f, t.pc, t.clk.m)) =
    some (0x80#8, 0x00#8, 0x0102#16, 2) := by decide

/-- V138: SET 1,E -/
theorem test_v138_set_1_e :
    seen (step (placed 0x0100#16 [0xCB#8, 0xCB#8] { State.reset with e := 0x00#8 })) (fun t => (t.e, t.f, t.pc, t.clk.m)) =
    some (0x02#8, 0x00#8, 0x0102#16, 2) := by decide

/-- V139: SET 3,(HL) -/
theorem test_v139_set_3_hl :
    seen (step (placed 0x0100#16 [0xCB#8, 0xDE#8] (withByte 0xC000#16 0x00#8 { State.reset with h := 0xC0#8, l := 0x00#8 }))) (fun t => (seenByte t 0xC000#16, t.f, t.pc, t.clk.m)) =
    some (0x08#8, 0x00#8, 0x0102#16, 4) := by decide

/-- V150: JP 0x8000 -/
theorem test_v150_jp_0x8000 :
    seen (step (placed 0x0100#16 [0xC3#8, 0x00#8, 0x80#8] State.reset)) (fun t => (t.pc, t.f, t.clk.m)) =
    some (0x8000#16, 0x00#8, 4) := by decide

/-- V151: JP NZ,0x8000 -/
theorem test_v151_jp_nz_0x8000 :
    seen (step (placed 0x0100#16 [0xC2#8, 0x00#8, 0x80#8] { State.reset with f := 0x00#8 })) (fun t => (t.pc, t.f, t.clk.m)) =
    some (0x8000#16, 0x00#8, 4) := by decide

/-- V152: JP NZ,0x8000 -/
theorem test_v152_jp_nz_0x8000 :
    seen (step (placed 0x0100#16 [0xC2#8, 0x00#8, 0x80#8] { State.reset with f := 0x80#8 })) (fun t => (t.pc, t.f, t.clk.m)) =
    some (0x0103#16, 0x80#8, 3) := by decide

/-- V153: JP C,0x1234 -/
theorem test_v153_jp_c_0x1234 :
    seen (step (placed 0x0100#16 [0xDA#8, 0x34#8, 0x12#8] { State.reset with f := 0x10#8 })) (fun t => (t.pc, t.f, t.clk.m)) =
    some (0x1234#16, 0x10#8, 4) := by decide

/-- V154: JP HL -/
theorem test_v154_jp_hl :
    seen (step (placed 0x0100#16 [0xE9#8] { State.reset with h := 0xC1#8, l := 0x23#8 })) (fun t => (t.pc, t.f, t.clk.m)) =
    some (0xC123#16, 0x00#8, 1) := by decide

/-- V155: JR +5 -/
theorem test_v155_jr_5 :
    seen (step (placed 0x0100#16 [0x18#8, 0x05#8] State.reset)) (fun t => (t.pc, t.f, t.clk.m)) =
    some (0x0107#16, 0x00#8, 3) := by decide

/-- V158: JR +127 -/
theorem test_v158_jr_127 :
    seen (step (placed 0xFFF0#16 [0x18#8, 0x7F#8] State.reset)) (fun t => (t.pc, t.f, t.clk.m)) =
    some (0x0071#16, 0x00#8, 3) := by decide

/-- V159: JR Z,+16 -/
theorem test_v159_jr_z_16 :
    seen (step (placed 0x0100#16 [0x28#8, 0x10#8] { State.reset with f := 0x80#8 })) (fun t => (t.pc, t.f, t.clk.m)) =
    some (0x0112#16, 0x80#8, 3) := by decide

/-- V160: JR Z,+16 -/
theorem test_v160_jr_z_16 :
    seen (step (placed 0x0100#16 [0x28#8, 0x10#8] { State.reset with f := 0x00#8 })) (fun t => (t.pc, t.f, t.clk.m)) =
    some (0x0102#16, 0x00#8, 2) := by decide

/-- V162: CALL 0x1234 -/
theorem test_v162_call_0x1234 :
    seen (step (placed 0x0100#16 [0xCD#8, 0x34#8, 0x12#8] { State.reset with sp := 0xFFFE#16 })) (fun t => (seenByte t 0xFFFD#16, seenByte t 0xFFFC#16, t.sp, t.pc, t.f, t.clk.m)) =
    some (0x01#8, 0x03#8, 0xFFFC#16, 0x1234#16, 0x00#8, 6) := by decide

/-- V163: CALL Z,0x2000 -/
theorem test_v163_call_z_0x2000 :
    seen (step (placed 0x0100#16 [0xCC#8, 0x00#8, 0x20#8] { State.reset with sp := 0xD000#16, f := 0x80#8 })) (fun t => (seenByte t 0xCFFF#16, seenByte t 0xCFFE#16, t.sp, t.pc, t.f, t.clk.m)) =
    some (0x01#8, 0x03#8, 0xCFFE#16, 0x2000#16, 0x80#8, 6) := by decide

/-- V164: CALL Z,0x2000 -/
theorem test_v164_call_z_0x2000 :
    seen (step (placed 0x0100#16 [0xCC#8, 0x00#8, 0x20#8] { State.reset with sp := 0xD000#16, f := 0x00#8 })) (fun t => (t.pc, t.f, t.clk.m)) =
    some (0x0103#16, 0x00#8, 3) := by decide

/-- V166: RET -/
theorem test_v166_ret :
    seen (step (placed 0x0100#16 [0xC9#8] (withByte 0xFFFD#16 0x01#8 (withByte 0xFFFC#16 0x03#8 { State.reset with sp := 0xFFFC#16 })))) (fun t => (t.pc, t.sp, t.f, t.clk.m)) =
    some (0x0103#16, 0xFFFE#16, 0x00#8, 4) := by decide

/-- V167: RET NZ -/
theorem test_v167_ret_nz :
    seen (step (placed 0x0100#16 [0xC0#8] (withByte 0xFFFD#16 0x01#8 (withByte 0xFFFC#16 0x03#8 { State.reset with sp := 0xFFFC#16, f := 0x00#8 })))) (fun t => (t.pc, t.sp, t.f, t.clk.m)) =
    some (0x0103#16, 0xFFFE#16, 0x00#8, 5) := by decide

/-- V168: RET NZ -/
theorem test_v168_ret_nz :
    seen (step (placed 0x0100#16 [0xC0#8] (withByte 0xFFFD#16 0x01#8 (withByte 0xFFFC#16 0x03#8 { State.reset with sp := 0xFFFC#16, f := 0x80#8 })))) (fun t => (t.pc, t.sp, t.f, t.clk.m)) =
    some (0x0101#16, 0xFFFC#16, 0x80#8, 2) := by decide

/-- V169: RET C -/
theorem test_v169_ret_c :
    seen (step (placed 0x0100#16 [0xD8#8] (withByte 0xFFFD#16 0x01#8 (withByte 0xFFFC#16 0x50#8 { State.reset with sp := 0xFFFC#16, f := 0x10#8 })))) (fun t => (t.pc, t.sp, t.f, t.clk.m)) =
    some (0x0150#16, 0xFFFE#16, 0x10#8, 5) := by decide

/-- V170: RETI -/
theorem test_v170_reti :
    seen (step (placed 0x0100#16 [0xD9#8] (withByte 0xCFFF#16 0x12#8 (withByte 0xCFFE#16 0x34#8 { State.reset with sp := 0xCFFE#16, ime := false })))) (fun t => (t.pc, t.sp, t.ime, t.f, t.clk.m)) =
    some (0x1234#16, 0xD000#16, true, 0x00#8, 4) := by decide

/-- V171: RST 38H -/
theorem test_v171_rst_38h :
    seen (step (placed 0x0100#16 [0xFF#8] { State.reset with sp := 0xFFFE#16 })) (fun t => (seenByte t 0xFFFD#16, seenByte t 0xFFFC#16, t.sp, t.pc, t.f, t.clk.m)) =
    some (0x01#8, 0x01#8, 0xFFFC#16, 0x0038#16, 0x00#8, 4) := by decide

/-- V172: RST 00H -/
theorem test_v172_rst_00h :
    seen (step (placed 0x0150#16 [0xC7#8] { State.reset with sp := 0xD000#16 })) (fun t => (seenByte t 0xCFFF#16, seenByte t 0xCFFE#16, t.sp, t.pc, t.f, t.clk.m)) =
    some (0x01#8, 0x51#8, 0xCFFE#16, 0x0000#16, 0x00#8, 4) := by decide

/-- V180: NOP -/
theorem test_v180_nop :
    seen (step (placed 0x0100#16 [0x00#8] { State.reset with a := 0x12#8, f := 0xF0#8 })) (fun t => (t.a, t.f, t.pc, t.clk.m, t.clk.t)) =
    some (0x12#8, 0xF0#8, 0x0101#16, 1, 4) := by decide

/-- V181: HALT -/
theorem test_v181_halt :
    seen (step (placed 0x0100#16 [0x76#8] State.reset)) (fun t => (t.halted, t.f, t.pc, t.clk.m)) =
    some (true, 0x00#8, 0x0101#16, 1) := by decide

/-- V182: STOP -/
theorem test_v182_stop :
    seen (step (placed 0x0100#16 [0x10#8, 0x00#8] State.reset)) (fun t => (t.stopped, t.f, t.pc, t.clk.m)) =
    some (true, 0x00#8, 0x0102#16, 1) := by decide

/-- V183: STOP -/
theorem test_v183_stop :
    seen (step (placed 0x0100#16 [0x10#8, 0x55#8] State.reset)) (fun t => (t.stopped, t.f, t.pc, t.clk.m)) =
    some (true, 0x00#8, 0x0102#16, 1) := by decide

/-- V184: DI -/
theorem test_v184_di :
    seen (step (placed 0x0100#16 [0xF3#8] { State.reset with ime := true })) (fun t => (t.ime, t.f, t.pc, t.clk.m)) =
    some (false, 0x00#8, 0x0101#16, 1) := by decide

/-- V185: EI -/
theorem test_v185_ei :
    seen (step (placed 0x0100#16 [0xFB#8] { State.reset with ime := false })) (fun t => (t.ime, t.f, t.pc, t.clk.m)) =
    some (true, 0x00#8, 0x0101#16, 1) := by decide

/-! Faults, primitives, clock, shell -/

/-- V190. -/
theorem test_v190_unresolved :
    step (placed 0x0100#16 [0xD3#8] { State.reset with a := 0x12#8, f := 0xF0#8, sp := 0xD000#16 }) =
      .fault (.unresolvedOpcode 0xD3#8 0x0100#16
        { placed 0x0100#16 [0xD3#8] { State.reset with a := 0x12#8, f := 0xF0#8, sp := 0xD000#16 } with
          pc := 0x0101#16, faulted := true }) := by rfl

/-- V193: an unresolved value as an immediate is data. -/
theorem test_v193_immediate_is_data :
    seen (step (placed 0x0100#16 [0x3E#8, 0xD3#8] State.reset)) (fun t => (t.a, t.pc, t.clk.m)) =
      some (0xD3#8, 0x0102#16, 2) := by decide

/-- S5, V194. -/
theorem test_v194_bit_index : hasBitSet 0xFF#8 8 = .fault (.bitIndexOutOfRange 8) := by rfl

theorem test_s5_has_bit_set : hasBitSet 0x80#8 7 = .next true := by rfl

/-- S7, its fourth step. -/
theorem test_s7_set_bit : setBit 0xF9#8 7 false = .next 0x79#8 := by rfl

/-- V195: a failing read. -/
theorem test_v195_failing_read :
    seenFault (step { placed 0x0100#16 [0xFA#8, 0x00#8, 0xA0#8] { State.reset with a := 0x11#8 } with
        regions := [{ first := 0xA000#16, last := 0xBFFF#16, onRead := .fails 5, onWrite := .stored }] })
      (fun t => (t.a, t.pc, t.clk.m, t.faulted)) = some (3, 0x11#8, 0x0103#16, 0, true) := by decide

/-- V196: a push whose second write fails. -/
theorem test_v196_failing_push :
    seenFault (step { placed 0x0100#16 [0xC5#8] { State.reset with b := 0x12#8, c := 0x34#8, sp := 0xD000#16 } with
        regions := [{ first := 0xCFFE#16, last := 0xCFFE#16, onRead := .stored, onWrite := .fails 5 }] })
      (fun t => (seenByte t 0xCFFF#16, seenByte t 0xCFFE#16, t.sp, t.pc, t.clk.m)) =
      some (3, 0x12#8, 0x00#8, 0xCFFE#16, 0x0101#16, 0) := by decide

/-- R230: no step of a faulted core. -/
theorem test_faulted_core_is_stuck : step { State.reset with faulted := true } = .fault .stepWhileFaulted := by rfl

/-- V200. -/
theorem test_v200_clock :
    seen (step (placed 0x0100#16 [0x00#8]
        { State.reset with clk := { m := 6, t := 24, totalM := 100, totalT := 400 } })) (fun t => t.clk) =
      some { m := 1, t := 4, totalM := 101, totalT := 404 } := by decide

/-- V201. -/
theorem test_v201_clock_reset :
    (State.clockReset { State.reset with clk := { m := 6, t := 24, totalM := 100, totalT := 400 } }).clk =
      { m := 0, t := 0, totalM := 0, totalT := 0 } := by decide

/-- V202: counters of 8 bits wrap. -/
theorem test_v202_clock_wraps :
    seen (step (placed 0x0100#16 [0xCD#8, 0x00#8, 0x40#8]
        { State.reset with clockBits := 8, clk := { m := 0, t := 0, totalM := 253, totalT := 244 } }))
      (fun t => t.clk) = some { m := 6, t := 24, totalM := 3, totalT := 12 } := by decide

/-- R237: the timer is taken, its flag cleared, PC pushed. -/
theorem test_service_interrupt_timer :
    seen (serviceInterrupt (withByte 0xFFFF#16 0x1F#8 (withByte 0xFF0F#16 0x0C#8
        { State.reset with ime := true, halted := true, pc := 0x0150#16, sp := 0xD000#16 })))
      (fun t => (t.pc, t.sp, t.ime, t.halted, seenByte t 0xFF0F#16, seenByte t 0xCFFF#16, seenByte t 0xCFFE#16)) =
      some (0x0050#16, 0xCFFE#16, false, false, 0x08#8, 0x01#8, 0x50#8) := by rfl

/-! Witnesses: states and operands that meet the hypotheses of each obligation -/

/-- HL at 0xC000 (a byte 0x12 there), SP at 0xD000 (0x34 there, 0x56 above), carry and N set. -/
def flat : State :=
  withByte 0xC000#16 0x12#8 (withByte 0xD000#16 0x34#8 (withByte 0xD001#16 0x56#8
    { State.reset with pc := 0x0101#16, sp := 0xD000#16, h := 0xC0#8, f := 0x50#8 }))

/-- `flat` on a Memory Unit that fails every access at `x`. -/
def failingAt (x : Word) : State :=
  { flat with regions := [{ first := x, last := x, onRead := .fails 9, onWrite := .fails 9 }] }

theorem canWrite_of_default {s : State} {x : Word} {v : Byte} (h : writePolicyAt s.regions x = .stored) :
    s.canWrite x v := by
  unfold State.canWrite State.storeFailure
  rw [h]

theorem flat_canWrite (x : Word) (v : Byte) : flat.canWrite x v := canWrite_of_default rfl

/-- `flat` on a Memory Unit that answers and reacts by itself at every address. -/
def wild : State :=
  { flat with regions := [{ first := 0x0000#16, last := 0xFFFF#16, onRead := .unit, onWrite := .unit }], unit := 3 }

/-- R51: a read with a side effect inside the Memory Unit. -/
theorem test_unit_read_has_side_effect (h : Config.unitRead 3 0xC000#16 = (.ok 0x42#8, 7)) :
    seen (exec .ldBIndHl wild) (fun t => (t.b, t.unit)) = some (0x42#8, 7) := by
  have e : exec .ldBIndHl wild = loadFrom .b 0xC000#16 2 wild := rfl
  have h1 : wild.load 0xC000#16 = .ok 0x42#8 := congrArg Prod.fst h
  rw [e, loadFrom_ok .b 2 h1]
  exact congrArg (fun u => some (0x42#8, u)) (congrArg Prod.snd h)

/-- R52: a write that switches a bank, after which another address reads otherwise. -/
theorem test_unit_write_switches_bank (h : Config.unitWrite 3 0x2000#16 0x01#8 = (none, 4))
    (hr : Config.unitRead 4 0x4000#16 = (.ok 0x99#8, 4)) :
    (memWrite wild 0x2000#16 0x01#8 = .next (wild.afterStore 0x2000#16 0x01#8)) ∧
    (wild.afterStore 0x2000#16 0x01#8).load 0x4000#16 = .ok 0x99#8 := by
  have e : (wild.afterStore 0x2000#16 0x01#8).load 0x4000#16 =
      (Config.unitRead (Config.unitWrite 3 0x2000#16 0x01#8).2 0x4000#16).1 := rfl
  refine ⟨memWrite_ok (congrArg Prod.fst h), ?_⟩
  rw [e, h, hr]

theorem witness_BitPrimitivesReadForceAndFault : ∃ n m : Nat, n ≤ 7 ∧ 7 < m := ⟨7, 8, by decide, by decide⟩

theorem witness_StepKeepsFlagNibbleZero :
    ∃ s t : State, FlagNibbleZero s ∧ step s = .next t ∧ t.f = 0x10#8 :=
  ⟨placed 0x0100#16 [0x07#8] { State.reset with a := 0x85#8, f := 0xF0#8 }, _, rfl, rfl, rfl⟩

theorem witness_StepKeepsClockRatio : ∃ s t : State, ClockInv s ∧ step s = .next t ∧ t.clk.totalM = 0 :=
  ⟨{ State.reset with clk := { m := 1, t := 4, totalM := 2 ^ 64 - 1, totalT := 2 ^ 64 - 4 } }, _,
    ⟨by decide, by decide, by decide, by decide⟩, rfl, by decide⟩

theorem witness_StepKeepsMemoryCanonical : ∃ s t : State, MemInv s ∧ step s = .next t ∧ t.mem ≠ s.mem :=
  ⟨placed 0x0100#16 [0x36#8, 0x5A#8] { State.reset with h := 0xC0#8 }, _, rfl, rfl, by decide⟩

theorem witness_FaultSetsTheLatchAndEndsStepping :
    (∃ s left x, step s = .fault x ∧ faultLeft x = some left ∧ Inv s) ∧ ∃ s : State, s.faulted = true :=
  ⟨⟨placed 0x0000#16 [0xD3#8] State.reset, _, _, rfl, rfl,
    ⟨rfl, ⟨by decide, by decide, by decide, by decide⟩, rfl⟩⟩, { State.reset with faulted := true }, rfl⟩

theorem witness_DecodeOfEncodeIsTheInstruction : Instr.wf (.ldSpD16 0xFFFE#16) = true ∧ Instr.wf .set7A = true := by
  decide

theorem witness_EncodeOfDecodeIsTheBytes : decode [0xC4#8, 0x34#8, 0x12#8, 0x77#8] = .ok (.callNzA16 0x1234#16, [0x77#8]) ∧
    decode [0xCB#8] = .ok (.prefixCb, []) := ⟨rfl, rfl⟩

theorem witness_StepRunsDecodedInstruction :
    ∃ s u : State, s.faulted = false ∧ ReadsBytes s s.pc [0xEA#8, 0x00#8, 0xC0#8] u ∧
      decode [0xEA#8, 0x00#8, 0xC0#8] = .ok (.ldIndA16A 0xC000#16, []) ∧ Instr.wf (.ldIndA16A 0xC000#16) = true :=
  ⟨placed 0xFFFE#16 [0xEA#8, 0x00#8, 0xC0#8] State.reset, _, rfl, ⟨rfl, rfl, rfl, rfl⟩, rfl, by decide⟩

theorem witness_PrefixResolvesTheExtendedTable :
    (∃ (s : State) (op2 v : Byte), s.load s.pc = .ok op2 ∧ (s.afterLoad s.pc).load s.hl = .ok v ∧
      ∀ w, ((s.afterLoad s.pc).afterLoad s.hl).canWrite s.hl w) ∧
    ∃ (s : State) (info : MemInfo), s.load s.pc = .error info :=
  ⟨⟨flat, _, _, rfl, rfl, fun _ => canWrite_of_default rfl⟩, failingAt 0x0101#16, 9, rfl⟩

theorem witness_UnresolvedOpcodesAreFatal :
    ∃ s : State, s.faulted = false ∧ s.load s.pc = .ok 0xFD#8 ∧ (0xFD#8, Instr.illegalFD) ∈ Instr.unresolved :=
  ⟨placed 0xFFFF#16 [0xFD#8] State.reset, rfl, rfl, by simp [Instr.unresolved]⟩

theorem witness_OnlyTheElevenOpcodesAreUnresolved :
    ∃ s left : State, step s = .fault (.unresolvedOpcode 0xFD#8 0xFFFF#16 left) :=
  ⟨placed 0xFFFF#16 [0xFD#8] State.reset, _, rfl⟩

theorem witness_EveryResolvedOpcodeCompletesOnFlatMemory :
    ∃ s : State, s.regions = [] ∧ s.faulted = false ∧ s.load s.pc = .ok 0xCB#8 ∧
      0xCB#8 ∉ [0xD3#8, 0xDB#8, 0xDD#8, 0xE3#8, 0xE4#8, 0xEB#8, 0xEC#8, 0xED#8, 0xF4#8, 0xFC#8, 0xFD#8] :=
  ⟨placed 0x0100#16 [0xCB#8] State.reset, rfl, rfl, rfl, by decide⟩

theorem witness_FailingFetchEndsTheStep :
    (∃ s : State, s.faulted = false ∧ s.load s.pc = .error 9) ∧
    (∃ s : State, s.faulted = false ∧ s.load s.pc = .ok 0xCB#8 ∧ 2 ≤ lengthFromFirst 0xCB#8 ∧
      (s.afterLoad s.pc).load (s.pc + 1#16) = .error 9) ∧
    (∃ s : State, s.faulted = false ∧ s.load s.pc = .ok 0xC3#8 ∧ lengthFromFirst 0xC3#8 = 3 ∧
      (s.afterLoad s.pc).load (s.pc + 1#16) = .ok 0x00#8 ∧
      ((s.afterLoad s.pc).afterLoad (s.pc + 1#16)).load (s.pc + 2#16) = .error 9) :=
  ⟨⟨failingAt 0x0101#16, rfl, rfl⟩,
    ⟨placed 0xFFFF#16 [0xCB#8] (failingAt 0x0000#16), rfl, rfl, by decide, rfl⟩,
    placed 0xFFFE#16 [0xC3#8] (failingAt 0x0000#16), rfl, rfl, rfl, rfl, rfl⟩

theorem witness_OnlyTheNamedInstructionsWriteTheOutputs :
    (∃ s t, exec .halt s = .next t) ∧ (∃ s t, exec (.stop 0x55#8) s = .next t) ∧
    (∃ s t, exec .ei s = .next t ∧ t.ime ≠ s.ime) ∧ ∃ s t, exec .nop s = .next t :=
  ⟨⟨flat, _, rfl⟩, ⟨flat, _, rfl⟩, ⟨flat, _, rfl, by decide⟩, flat, _, rfl⟩

theorem witness_ClockAndOutputsAreNeverRead :
    ∃ s s' : State, s ≠ s' ∧ s.withoutOutputs = s'.withoutOutputs :=
  ⟨flat, { flat with ime := true, halted := true, stopped := true, clk := { m := 1, t := 4, totalM := 1, totalT := 4 } },
    by decide, rfl⟩

theorem flat_canPush (v : Word) : flat.canPush v := ⟨canWrite_of_default rfl, canWrite_of_default rfl⟩

theorem witness_PopAfterPushRestores :
    (∃ (s : State) (v : Word), MemInv s ∧ s.canPush v ∧ s.isRam (s.sp - 1#16) ∧ s.isRam (s.sp - 2#16)) ∧
    ∃ (s : State) (l g : Byte), s.popReads l g ∧ l ≠ g :=
  ⟨⟨flat, 0x1234#16, rfl, flat_canPush _, ⟨rfl, rfl⟩, ⟨rfl, rfl⟩⟩, flat, 0x34#8, 0x56#8, ⟨rfl, rfl⟩, by decide⟩

/-- One state per kind of access: answered and reacted to by the Memory Unit itself, plain, failing, flat. -/
theorem witness_MemoryUnitAnswersEveryAccess :
    (readPolicyAt wild.regions 0xFFFF#16 = .unit ∧ writePolicyAt wild.regions 0x0000#16 = .unit) ∧
    (readPolicyAt flat.regions 0xC000#16 ≠ .unit ∧ flat.load 0xC000#16 = .ok 0x12#8 ∧ flat.canWrite 0xC000#16 0xFF#8) ∧
    ((failingAt 0xC000#16).load 0xC000#16 = .error 9 ∧ (failingAt 0xC000#16).storeFailure 0xC000#16 0xFF#8 = some 9 ∧
      writePolicyAt (failingAt 0xC000#16).regions 0xC000#16 ≠ .unit) ∧
    ∃ s : State, s.regions = [] ∧ MemInv s :=
  ⟨⟨rfl, rfl⟩, ⟨by decide, rfl, flat_canWrite _ _⟩, ⟨rfl, rfl, by decide⟩, flat, rfl, rfl⟩

/-- Failing reads of IE and of IF; nothing pending; bits 2 and 3 pending with `ime` clear; the last source taken. -/
theorem witness_InterruptServiceTakesTheLowestPending :
    ((failingAt 0xFFFF#16).load 0xFFFF#16 = .error 9) ∧
    ((failingAt 0xFF0F#16).load 0xFFFF#16 = .ok 0x00#8 ∧
      ((failingAt 0xFF0F#16).afterLoad 0xFFFF#16).load 0xFF0F#16 = .error 9) ∧
    (∃ s : State, s.load 0xFFFF#16 = .ok 0x1F#8 ∧ (s.afterLoad 0xFFFF#16).load 0xFF0F#16 = .ok 0xE0#8 ∧
      0x1F#8 &&& 0xE0#8 &&& 0x1F#8 = 0#8) ∧
    (∃ s : State, s.load 0xFFFF#16 = .ok 0x1F#8 ∧ (s.afterLoad 0xFFFF#16).load 0xFF0F#16 = .ok 0x0C#8 ∧
      0x1F#8 &&& 0x0C#8 &&& 0x1F#8 ≠ 0#8 ∧ s.ime = false) ∧
    (∃ s : State, s.load 0xFFFF#16 = .ok 0x1F#8 ∧ (s.afterLoad 0xFFFF#16).load 0xFF0F#16 = .ok 0x10#8 ∧
      (0x1F#8 &&& 0x10#8).getLsbD 4 = true ∧ (∀ j, j < 4 → (0x1F#8 &&& 0x10#8).getLsbD j = false) ∧ s.ime = true ∧
      (0x00#8).getLsbD 4 = false ∧ (∀ k, k ≠ 4 → (0x00#8).getLsbD k = (0x10#8).getLsbD k) ∧
      ((s.afterLoad 0xFFFF#16).afterLoad 0xFF0F#16).canWrite 0xFF0F#16 0x00#8 ∧
      (((s.afterLoad 0xFFFF#16).afterLoad 0xFF0F#16).afterStore 0xFF0F#16 0x00#8).canPush s.pc) := by
  refine ⟨rfl, ⟨rfl, rfl⟩, ⟨withByte 0xFFFF#16 0x1F#8 (withByte 0xFF0F#16 0xE0#8 flat), rfl, rfl, by decide⟩,
    ⟨withByte 0xFFFF#16 0x1F#8 (withByte 0xFF0F#16 0x0C#8 flat), rfl, rfl, by decide, rfl⟩,
    withByte 0xFFFF#16 0x1F#8 (withByte 0xFF0F#16 0x10#8 { flat with ime := true }), rfl, rfl, by decide, by decide,
    rfl, by decide, fun k hk => ?_, canWrite_of_default rfl, canWrite_of_default rfl, canWrite_of_default rfl⟩
  by_cases h : k < 8
  · interval_cases k <;> first | rfl | exact absurd rfl hk
  · rw [BitVec.getLsbD_of_ge _ _ (by omega), BitVec.getLsbD_of_ge _ _ (by omega)]

theorem witness_LoadRegisterFromAddressHl :
    (∃ s : State, s.load s.hl = .ok 0x12#8) ∧ ∃ s : State, s.load s.hl = .error 9 :=
  ⟨⟨flat, rfl⟩, failingAt 0xC000#16, rfl⟩

theorem witness_StoreToAddressHl :
    (∃ s : State, s.canWrite s.hl 0x5A#8) ∧ (∃ s : State, s.storeFailure s.hl 0x5A#8 = some 9) ∧
    ∀ s : State, (Instr.ldIndHlD8 0x5A#8, 0x5A#8, 3) ∈
      [(Instr.ldIndHlReg .h, s.reg .h, 2), (.ldIndHlD8 0x5A#8, 0x5A#8, 3)] :=
  ⟨⟨flat, flat_canWrite _ _⟩, ⟨failingAt 0xC000#16, rfl⟩, fun _ => .tail _ (.head _)⟩

theorem witness_LoadAFromMemory :
    (∃ s : State, s.load (highPage 0xFF#8) = .ok 0x00#8 ∧ s.load s.bc = .ok 0x00#8) ∧
    (∃ s : State, s.load (highPage s.c) = .error 9) ∧
    ∀ s : State, (Instr.ldhAIndA8 0xFF#8, highPage 0xFF#8, 3) ∈
      [(Instr.ldAIndBc, s.bc, 2), (.ldAIndDe, s.de, 2), (.ldAIndA16 0xC000#16, 0xC000#16, 4),
        (.ldhAIndC, highPage s.c, 2), (.ldhAIndA8 0xFF#8, highPage 0xFF#8, 3)] :=
  ⟨⟨flat, rfl, rfl⟩, ⟨failingAt 0xFF00#16, rfl⟩, fun _ => .tail _ (.tail _ (.tail _ (.tail _ (.head _))))⟩

theorem witness_StoreAToMemory :
    (∃ s : State, s.canWrite (highPage s.c) s.a ∧ s.canWrite s.de s.a) ∧
    (∃ s : State, s.storeFailure (highPage s.c) s.a = some 9) ∧
    ∀ s : State, (Instr.ldhIndCA, highPage s.c, 2) ∈
      [(Instr.ldIndBcA, s.bc, 2), (.ldIndDeA, s.de, 2), (.ldIndA16A 0xC000#16, 0xC000#16, 4),
        (.ldhIndCA, highPage s.c, 2), (.ldhIndA8A 0xFF#8, highPage 0xFF#8, 3)] :=
  ⟨⟨flat, flat_canWrite _ _, flat_canWrite _ _⟩, ⟨failingAt 0xFF00#16, rfl⟩,
    fun _ => .tail _ (.tail _ (.tail _ (.head _)))⟩

/-- HL at either end of the address space. -/
theorem witness_LoadAStepHl :
    (∃ s : State, s.hl = 0x0000#16 ∧ s.load s.hl = .ok 0x00#8) ∧
    (∃ s : State, s.hl = 0xFFFF#16 ∧ s.load s.hl = .ok 0x00#8) ∧ (∃ s : State, s.load s.hl = .error 9) ∧
    ∀ s : State, (Instr.ldAIndHlInc, s.hl + 1#16) ∈
      [(Instr.ldAIndHlDec, s.hl - 1#16), (.ldAIndHlInc, s.hl + 1#16)] :=
  ⟨⟨State.reset, rfl, rfl⟩, ⟨{ State.reset with h := 0xFF#8, l := 0xFF#8 }, rfl, rfl⟩, ⟨failingAt 0xC000#16, rfl⟩,
    fun _ => .tail _ (.head _)⟩

theorem witness_StoreAStepHl :
    (∃ s : State, s.hl = 0xFFFF#16 ∧ s.canWrite s.hl s.a) ∧ (∃ s : State, s.storeFailure s.hl s.a = some 9) ∧
    ∀ s : State, (Instr.ldIndHlIncA, s.hl + 1#16) ∈
      [(Instr.ldIndHlDecA, s.hl - 1#16), (.ldIndHlIncA, s.hl + 1#16)] :=
  ⟨⟨{ State.reset with h := 0xFF#8, l := 0xFF#8 }, rfl, canWrite_of_default rfl⟩, ⟨failingAt 0xC000#16, rfl⟩,
    fun _ => .tail _ (.head _)⟩

theorem witness_StoreStackPointer :
    (∃ s : State, s.canWrite 0xFFFF#16 (lo s.sp) ∧
      (s.afterStore 0xFFFF#16 (lo s.sp)).canWrite (0xFFFF#16 + 1#16) (hi s.sp)) ∧
    (∃ s : State, s.storeFailure 0xFFFF#16 (lo s.sp) = some 9) ∧
    (∃ s : State, s.canWrite 0xFFFF#16 (lo s.sp) ∧
      (s.afterStore 0xFFFF#16 (lo s.sp)).storeFailure (0xFFFF#16 + 1#16) (hi s.sp) = some 9) :=
  ⟨⟨flat, canWrite_of_default rfl, canWrite_of_default rfl⟩, ⟨failingAt 0xFFFF#16, rfl⟩, failingAt 0x0000#16,
    canWrite_of_default rfl, rfl⟩

theorem witness_PushPair :
    (∃ s : State, s.sp = 0x0001#16 ∧ s.canPush (s.stackPair .af)) ∧
    (∃ s : State, s.storeFailure (s.sp - 1#16) (hi (s.stackPair .af)) = some 9) ∧
    (∃ s : State, s.canWrite (s.sp - 1#16) (hi (s.stackPair .af)) ∧
      (s.afterStore (s.sp - 1#16) (hi (s.stackPair .af))).storeFailure (s.sp - 2#16) (lo (s.stackPair .af)) = some 9) :=
  ⟨⟨{ flat with sp := 0x0001#16 }, rfl, canWrite_of_default rfl, canWrite_of_default rfl⟩,
    ⟨failingAt 0xCFFF#16, rfl⟩, failingAt 0xCFFE#16, canWrite_of_default rfl, rfl⟩

theorem witness_PopPair :
    (∃ s : State, s.popReads 0x34#8 0x56#8) ∧
    (∃ s : State, s.load s.sp = .error 9) ∧
    (∃ s : State, s.load s.sp = .ok 0x34#8 ∧ (s.afterLoad s.sp).load (s.sp + 1#16) = .error 9) :=
  ⟨⟨flat, rfl, rfl⟩, ⟨failingAt 0xD000#16, rfl⟩, failingAt 0xD001#16, rfl, rfl⟩

theorem aluForm_reg {op : AluOp} {r : Reg8} {s : State} {v : Byte} (h : v = s.reg r) :
    AluForm op (.alu op (.reg r)) v 1 s s := .inl ⟨r, rfl, h, rfl, rfl⟩

theorem aluForm_indHl {op : AluOp} {s : State} {v : Byte} (h : s.load s.hl = .ok v) :
    AluForm op (.alu op .indHl) v 2 s (s.afterLoad s.hl) := .inr (.inl ⟨rfl, h, rfl, rfl⟩)

theorem aluForm_imm (op : AluOp) (v : Byte) (s : State) : AluForm op (.aluImm op v) v 2 s s :=
  .inr (.inr ⟨rfl, rfl, rfl⟩)

/-- The three forms of one operation; `failingAt 0xC000` is the failing memory form. -/
theorem witness_AddAndAddWithCarry :
    ((AluOp.adc, flat.flagC.toNat) ∈ [(.add, 0), (.adc, flat.flagC.toNat)]) ∧
    AluForm .adc (.alu .adc (.reg .h)) 0xC0#8 1 flat flat ∧ AluForm .adc (.alu .adc .indHl) 0x12#8 2 flat (flat.afterLoad flat.hl) ∧
    AluForm .adc (.aluImm .adc 0xFF#8) 0xFF#8 2 flat flat :=
  ⟨.tail _ (.head _), aluForm_reg rfl, aluForm_indHl rfl, aluForm_imm ..⟩

theorem witness_SubtractAndSubtractWithBorrow :
    ((AluOp.sbc, flat.flagC.toNat) ∈ [(.sub, 0), (.sbc, flat.flagC.toNat)]) ∧
    AluForm .sbc (.alu .sbc (.reg .a)) 0x00#8 1 flat flat ∧ AluForm .sbc (.alu .sbc .indHl) 0x12#8 2 flat (flat.afterLoad flat.hl) ∧
    AluForm .sbc (.aluImm .sbc 0xFF#8) 0xFF#8 2 flat flat :=
  ⟨.tail _ (.head _), aluForm_reg rfl, aluForm_indHl rfl, aluForm_imm ..⟩

theorem witness_CompareLeavesA :
    AluForm .cp (.alu .cp (.reg .a)) 0x00#8 1 flat flat ∧ AluForm .cp (.alu .cp .indHl) 0x12#8 2 flat (flat.afterLoad flat.hl) ∧
    AluForm .cp (.aluImm .cp 0x3C#8) 0x3C#8 2 flat flat :=
  ⟨aluForm_reg rfl, aluForm_indHl rfl, aluForm_imm ..⟩

theorem witness_BitwiseOperations :
    AluOp.or ∈ [AluOp.and, .xor, .or] ∧ AluForm .or (.alu .or (.reg .h)) 0xC0#8 1 flat flat ∧
    AluForm .xor (.alu .xor .indHl) 0x12#8 2 flat (flat.afterLoad flat.hl) ∧ AluForm .and (.aluImm .and 0x00#8) 0x00#8 2 flat flat ∧
    (failingAt 0xC000#16).load (failingAt 0xC000#16).hl = .error 9 :=
  ⟨by decide, aluForm_reg rfl, aluForm_indHl rfl, aluForm_imm .., rfl⟩

/-- A register and the byte at HL, readable and writable; a failing read; a read that succeeds with a failing write. -/
theorem witness_IncrementByte :
    (OperandHolds (.reg .h) 0xC0#8 flat ∧ OperandWritable (.reg .h) 0xC1#8 (flat.afterOperand (.reg .h))) ∧
    (OperandHolds .indHl 0x12#8 flat ∧ OperandWritable .indHl 0x13#8 (flat.afterOperand .indHl)) ∧
    (∃ s : State, s.load s.hl = .error 9) ∧
    ∃ s : State, s.load s.hl = .ok 0x12#8 ∧ (s.afterLoad s.hl).storeFailure s.hl 0x13#8 = some 9 :=
  ⟨⟨rfl, trivial⟩, ⟨rfl, canWrite_of_default rfl⟩, ⟨failingAt 0xC000#16, rfl⟩,
    { flat with regions := [{ first := 0xC000#16, last := 0xC000#16, onRead := .stored, onWrite := .fails 9 }] }, rfl, rfl⟩

theorem witness_DecrementByte :
    (OperandHolds (.reg .l) 0x00#8 flat ∧ OperandWritable (.reg .l) 0xFF#8 (flat.afterOperand (.reg .l))) ∧
    (OperandHolds .indHl 0x12#8 flat ∧ OperandWritable .indHl 0x11#8 (flat.afterOperand .indHl)) :=
  ⟨⟨rfl, trivial⟩, rfl, canWrite_of_default rfl⟩

theorem witness_DecimalAdjustAccumulator : (∃ s : State, s.flagN = false) ∧ ∃ s : State, s.flagN = true :=
  ⟨⟨State.reset, rfl⟩, flat, rfl⟩

theorem witness_StepSixteenBitRegister :
    (Instr.decReg16 .sp, ((flat.reg16 .sp).toNat + 65535) % 65536) ∈
      [(Instr.incReg16 .sp, ((flat.reg16 .sp).toNat + 1) % 65536),
        (.decReg16 .sp, ((flat.reg16 .sp).toNat + 65535) % 65536)] := .tail _ (.head _)

theorem witness_AccumulatorRotates :
    (Instr.rra, RotOp.rr) ∈ [(.rlca, .rlc), (.rrca, .rrc), (.rla, .rl), (.rra, .rr)] :=
  .tail _ (.tail _ (.tail _ (.head _)))

theorem witness_ExtendedRotatesAndShifts :
    (OperandHolds (.reg .a) 0x00#8 flat ∧ OperandWritable (.reg .a) 0x00#8 (flat.afterOperand (.reg .a))) ∧
    OperandHolds .indHl 0x12#8 flat ∧ OperandWritable .indHl 0x24#8 (flat.afterOperand .indHl) :=
  ⟨⟨rfl, trivial⟩, rfl, canWrite_of_default rfl⟩

theorem witness_TestBitOfOperand : OperandHolds (.reg .h) 0xC0#8 flat ∧ OperandHolds .indHl 0x12#8 flat := ⟨rfl, rfl⟩

theorem witness_ResetAndSetBitOfOperand :
    OperandHolds .indHl 0x12#8 flat ∧ OperandWritable .indHl 0x92#8 (flat.afterOperand .indHl) ∧
    (Instr.set 7 .indHl, true) ∈ [(Instr.res 7 .indHl, false), (.set 7 .indHl, true)] :=
  ⟨rfl, canWrite_of_default rfl, .tail _ (.head _)⟩

theorem witness_UnconditionalJumps :
    (Instr.jpHl, flat.hl, 1) ∈ [(Instr.jpA16 0x8000#16, 0x8000#16, 4), (.jpHl, flat.hl, 1),
      (.jrE8 0x80#8, BitVec.ofInt 16 ((flat.pc.toNat : Int) + BitVec.toInt 0x80#8), 3)] := .tail _ (.head _)

/-- `flat` has C set and Z clear, so both outcomes of a condition occur in it. -/
theorem witness_ConditionalJumps :
    flat.cond .c = true ∧ flat.cond .nc = false ∧
    (Instr.jpCond .c 0x1234#16, 0x1234#16, 4, 3) ∈ [(Instr.jpCond .c 0x1234#16, 0x1234#16, 4, 3),
      (.jrCond .c 0xFE#8, BitVec.ofInt 16 ((flat.pc.toNat : Int) + BitVec.toInt 0xFE#8), 3, 2)] :=
  ⟨rfl, rfl, .head _⟩

theorem witness_CallsAndRestarts :
    (flat.cond .z = false ∧ flat.cond .nz = true ∧ flat.canPush flat.pc) ∧
    (∃ s : State, s.storeFailure (s.sp - 1#16) (hi s.pc) = some 9) ∧
    (∃ s : State, s.canWrite (s.sp - 1#16) (hi s.pc) ∧
      (s.afterStore (s.sp - 1#16) (hi s.pc)).storeFailure (s.sp - 2#16) (lo s.pc) = some 9) ∧
    (Instr.rst 7, BitVec.ofNat 16 (8 * (7 : Fin 8).val), 4) ∈ [(Instr.callA16 0x1234#16, 0x1234#16, 6),
      (.callCond .nz 0x1234#16, 0x1234#16, 6), (.rst 7, BitVec.ofNat 16 (8 * (7 : Fin 8).val), 4)] :=
  ⟨⟨rfl, rfl, flat_canPush _⟩, ⟨failingAt 0xCFFF#16, rfl⟩,
    ⟨failingAt 0xCFFE#16, canWrite_of_default rfl, rfl⟩, .tail _ (.tail _ (.head _))⟩

theorem witness_Returns :
    (flat.cond .z = false ∧ flat.cond .nz = true ∧ flat.popReads 0x34#8 0x56#8) ∧
    (∃ s : State, s.load s.sp = .error 9) ∧
    (∃ s : State, s.load s.sp = .ok 0x34#8 ∧ (s.afterLoad s.sp).load (s.sp + 1#16) = .error 9) ∧
    ∀ s : State, (Instr.reti, true, 4) ∈ [(Instr.ret, s.ime, 4), (.reti, true, 4), (.retCond .nz, s.ime, 5)] :=
  ⟨⟨rfl, rfl, rfl, rfl⟩, ⟨failingAt 0xD000#16, rfl⟩, ⟨failingAt 0xD001#16, rfl, rfl⟩, fun _ => .tail _ (.head _)⟩

theorem witness_NopOnlyAdvancesPc : ∃ s : State, s.faulted = false ∧ s.load s.pc = .ok 0x00#8 :=
  ⟨{ State.reset with pc := 0xFFFF#16 }, rfl, rfl⟩

end Sys2Proof.Tests
end

section
/-! SUPPORT. The bit primitives (spec/00_scope.md R7, R8): what each answers, and which bits a forced byte has. -/

namespace Sys2Proof.Machine

theorem hasBitSet_of_le (v : Byte) {n : Nat} (hn : n ≤ 7) : hasBitSet v n = .next (v.getLsbD n) := if_pos hn

theorem hasBitSet_of_gt (v : Byte) {n : Nat} (hn : 7 < n) : hasBitSet v n = .fault (.bitIndexOutOfRange n) :=
  if_neg (by omega)

theorem setBit_of_le (v : Byte) {n : Nat} (set : Bool) (hn : n ≤ 7) :
    setBit v n set = .next (if set then raiseBit v n else clearBit v n) := if_pos hn

theorem setBit_of_gt (v : Byte) {n : Nat} (set : Bool) (hn : 7 < n) :
    setBit v n set = .fault (.bitIndexOutOfRange n) := if_neg (by omega)

/-- The mask `1 << n` has bit `n` alone. -/
theorem getLsbD_one_shiftLeft {n : Nat} (hn : n ≤ 7) (k : Nat) : (1#8 <<< n).getLsbD k = decide (n = k) := by
  have h : (1#8 <<< n).getLsbD k = (decide (n < 8) && decide (n = k)) := BitVec.getLsbD_twoPow n k
  rw [h, decide_eq_true (show n < 8 by omega), Bool.true_and]

theorem getLsbD_raiseBit (v : Byte) {n : Nat} (hn : n ≤ 7) (k : Nat) :
    (raiseBit v n).getLsbD k = (v.getLsbD k || decide (n = k)) := by
  rw [raiseBit, BitVec.getLsbD_or, getLsbD_one_shiftLeft hn]

theorem getLsbD_clearBit (v : Byte) {n : Nat} (hn : n ≤ 7) (k : Nat) :
    (clearBit v n).getLsbD k = (v.getLsbD k && !decide (n = k)) := by
  rw [clearBit, BitVec.getLsbD_and, BitVec.getLsbD_not, getLsbD_one_shiftLeft hn]
  by_cases hk : k < 8
  · simp [hk]
  · simp [BitVec.getLsbD_of_ge v k (by omega)]

/-- For an index in 0..7, `set_bit` answers a byte with that bit forced and every other bit kept (R8). -/
theorem setBit_forces (v : Byte) {n : Nat} (set : Bool) (hn : n ≤ 7) :
    ∃ r, setBit v n set = .next r ∧ r.getLsbD n = set ∧ ∀ k, k ≠ n → r.getLsbD k = v.getLsbD k := by
  refine ⟨_, setBit_of_le v set hn, ?_⟩
  cases set with
  | true => simp +contextual [getLsbD_raiseBit v hn, eq_comm]
  | false => simp +contextual [getLsbD_clearBit v hn, eq_comm]

end Sys2Proof.Machine
end

section
/-! SUPPORT. How an instruction can end other than in a next state: in its own unresolved opcode (R226) or in an access
that the Memory Unit fails (R233). Each shared operation once, then every instruction by its shape. -/

namespace Sys2Proof.Machine

/-- All that an instruction has changed by the time one of its accesses fails: PC, SP, memory in its canonical form,
and what the Memory Unit remembers (R233; log entry 17). -/
def Accessed (s u : State) : Prop :=
  ∃ p q m n, u = { s with pc := p, sp := q, mem := m, unit := n } ∧ (MemInv s → MemInv u)

theorem Accessed.trans {s t u : State} (h : Accessed s t) (h' : Accessed t u) : Accessed s u := by
  obtain ⟨_, _, _, _, rfl, hm⟩ := h
  obtain ⟨p, q, m, n, rfl, hm'⟩ := h'
  exact ⟨p, q, m, n, rfl, fun hs => hm' (hm hs)⟩

theorem accessed_afterLoad (s : State) (x : Word) : Accessed s (s.afterLoad x) := ⟨_, _, _, _, rfl, id⟩

theorem accessed_afterStore (s : State) (x : Word) (v : Byte) : Accessed s (s.afterStore x v) :=
  ⟨_, _, _, _, rfl, memInv_afterStore x v⟩

theorem accessed_stackDown (s : State) : Accessed s (stackDown s) := ⟨_, _, _, _, rfl, id⟩

theorem accessed_stackUp (s : State) : Accessed s (stackUp s) := ⟨_, _, _, _, rfl, id⟩

theorem accessed_afterOperand (s : State) (x : Operand8) : Accessed s (s.afterOperand x) := by
  obtain ⟨u, hu⟩ := State.afterOperand_eq s x
  exact ⟨_, _, _, u, hu, hu ▸ id⟩

/-- An operation begun in `s` answers a next state, or ends in an access that the Memory Unit fails, with the latch set
on a core of which only accesses have changed anything; it is not refused. -/
def CompletesOrFails {β : Type} (s : State) : Host.Outcome β Fault Refusal → Prop
  | .next _ => True
  | .fault x => ∃ info u, Accessed s u ∧ x = .memoryAccessFailure info { u with faulted := true }
  | .refused _ => False

theorem completesOrFails_next {β : Type} (s : State) (t : β) : CompletesOrFails s (.next t) := trivial

theorem completesOrFails_finish (s : State) (n : Nat) (t : State) : CompletesOrFails s (finish n t) := trivial

/-- What came before the operation counts among the changes. -/
theorem CompletesOrFails.after {β : Type} {s t : State} {r : Host.Outcome β Fault Refusal} (ha : Accessed s t)
    (h : CompletesOrFails t r) : CompletesOrFails s r := by
  match r with
  | .next _ => trivial
  | .fault _ =>
    obtain ⟨info, u, hu, rfl⟩ := h
    exact ⟨info, u, ha.trans hu, rfl⟩
  | .refused _ => exact h

theorem completesOrFails_andThen {α β : Type} {s : State} {r : Res α}
    {k : α → State → Host.Outcome β Fault Refusal}
    (hr : CompletesOrFails s r) (hk : ∀ v u, r = .next (v, u) → CompletesOrFails s (k v u)) :
    CompletesOrFails s (andThen r k) := by
  match r with
  | .next (v, u) => exact hk v u rfl
  | .fault _ => exact hr
  | .refused _ => exact hr

theorem completesOrFails_thenDo {β : Type} {s : State} {r : Out} {k : State → Host.Outcome β Fault Refusal}
    (hr : CompletesOrFails s r) (hk : ∀ u, r = .next u → CompletesOrFails s (k u)) :
    CompletesOrFails s (thenDo r k) := by
  match r with
  | .next u => exact hk u rfl
  | .fault _ => exact hr
  | .refused _ => exact hr

theorem memRead_completesOrFails (s : State) (x : Word) : CompletesOrFails s (memRead s x) := by
  match h : s.load x with
  | .ok v => rw [memRead_ok h]; trivial
  | .error info => rw [memRead_error h]; exact ⟨info, _, accessed_afterLoad s x, rfl⟩

theorem memWrite_completesOrFails (s : State) (x : Word) (v : Byte) : CompletesOrFails s (memWrite s x v) := by
  match h : s.storeFailure x v with
  | none => rw [memWrite_ok h]; trivial
  | some info => rw [memWrite_fails h]; exact ⟨info, _, accessed_afterStore s x v, rfl⟩

theorem push16_completesOrFails (s : State) (v : Word) : CompletesOrFails s (push16 s v) := by
  have hd := accessed_stackDown s
  refine completesOrFails_thenDo (.after hd (memWrite_completesOrFails _ _ _)) fun t ht => ?_
  obtain ⟨rfl, -⟩ := memWrite_eq_next ht
  exact .after ((hd.trans (accessed_afterStore _ _ _)).trans (accessed_stackDown _)) (memWrite_completesOrFails _ _ _)

theorem pop16_completesOrFails (s : State) : CompletesOrFails s (pop16 s) := by
  refine completesOrFails_andThen (memRead_completesOrFails s s.sp) fun l t ht => ?_
  obtain ⟨rfl, -⟩ := memRead_eq_next ht
  exact completesOrFails_andThen
    (.after ((accessed_afterLoad _ _).trans (accessed_stackUp _)) (memRead_completesOrFails _ _))
    fun _ _ _ => completesOrFails_next _ _

theorem readR8_completesOrFails (s : State) (x : Operand8) : CompletesOrFails s (readR8 s x) := by
  cases x with
  | reg r => trivial
  | indHl => exact memRead_completesOrFails s s.hl

theorem writeR8_completesOrFails (s : State) (x : Operand8) (v : Byte) : CompletesOrFails s (writeR8 s x v) := by
  cases x with
  | reg r => trivial
  | indHl => exact memWrite_completesOrFails s s.hl v

theorem loadFrom_completesOrFails (dst : Reg8) (x : Word) (n : Nat) (s : State) :
    CompletesOrFails s (loadFrom dst x n s) :=
  completesOrFails_andThen (memRead_completesOrFails s x) fun _ _ _ => completesOrFails_finish _ _ _

theorem storeTo_completesOrFails (x : Word) (v : Byte) (n : Nat) (s : State) :
    CompletesOrFails s (storeTo x v n s) :=
  completesOrFails_thenDo (memWrite_completesOrFails s x v) fun _ _ => completesOrFails_finish _ _ _

theorem loadFromHlThen_completesOrFails (next : Word) (s : State) : CompletesOrFails s (loadFromHlThen next s) :=
  completesOrFails_andThen (memRead_completesOrFails s s.hl) fun _ _ _ => completesOrFails_finish _ _ _

theorem storeToHlThen_completesOrFails (next : Word) (s : State) : CompletesOrFails s (storeToHlThen next s) :=
  completesOrFails_thenDo (memWrite_completesOrFails s s.hl s.a) fun _ _ => completesOrFails_finish _ _ _

theorem storeSp_completesOrFails (x : Word) (s : State) : CompletesOrFails s (storeSp x s) := by
  refine completesOrFails_thenDo (memWrite_completesOrFails s x (lo s.sp)) fun t ht => ?_
  obtain ⟨rfl, -⟩ := memWrite_eq_next ht
  exact completesOrFails_thenDo (.after (accessed_afterStore s x _) (memWrite_completesOrFails _ _ _))
    fun _ _ => completesOrFails_finish _ _ _

theorem pushPair_completesOrFails (p : StackPair) (s : State) : CompletesOrFails s (pushPair p s) :=
  completesOrFails_thenDo (push16_completesOrFails s _) fun _ _ => completesOrFails_finish _ _ _

theorem popPair_completesOrFails (p : StackPair) (s : State) : CompletesOrFails s (popPair p s) :=
  completesOrFails_andThen (pop16_completesOrFails s) fun _ _ _ => completesOrFails_finish _ _ _

theorem aluOperand_completesOrFails (op : AluOp) (x : Operand8) (s : State) :
    CompletesOrFails s (aluOperand op x s) :=
  completesOrFails_andThen (readR8_completesOrFails s x) fun _ _ _ => completesOrFails_finish _ _ _

theorem testBit_completesOrFails (b : Nat) (x : Operand8) (s : State) : CompletesOrFails s (testBit b x s) :=
  completesOrFails_andThen (readR8_completesOrFails s x) fun _ _ _ => completesOrFails_finish _ _ _

/-- An operand read and then written back fails in the read or in the write. -/
theorem readThenWrite_completesOrFails (s : State) (x : Operand8) (f : State → Byte → Byte)
    (k : State → Byte → State → Out) (hk : ∀ t v u, CompletesOrFails s (k t v u)) :
    CompletesOrFails s (andThen (readR8 s x) fun v t => thenDo (writeR8 t x (f t v)) (k t v)) := by
  refine completesOrFails_andThen (readR8_completesOrFails s x) fun v t ht => ?_
  obtain ⟨rfl, -⟩ := readR8_eq_next ht
  exact completesOrFails_thenDo (.after (accessed_afterOperand s x) (writeR8_completesOrFails _ x _))
    fun u _ => hk _ v u

theorem modifyWithFlags_completesOrFails (x : Operand8) (f : State → Byte → Result8) (n : Nat) (s : State) :
    CompletesOrFails s (modifyWithFlags x f n s) :=
  readThenWrite_completesOrFails s x _ _ fun _ _ _ => completesOrFails_finish _ _ _

theorem modifyPlain_completesOrFails (x : Operand8) (f : Byte → Byte) (n : Nat) (s : State) :
    CompletesOrFails s (modifyPlain x f n s) :=
  readThenWrite_completesOrFails s x _ _ fun _ _ _ => completesOrFails_finish _ _ _

theorem jumpIf_completesOrFails (cc : Cond) (x : Word) (n k : Nat) (s : State) :
    CompletesOrFails s (jumpIf cc x n k s) := by
  unfold jumpIf
  split
  · exact completesOrFails_finish _ _ _
  · exact completesOrFails_finish _ _ _

theorem callTo_completesOrFails (x : Word) (n : Nat) (s : State) : CompletesOrFails s (callTo x n s) :=
  completesOrFails_thenDo (push16_completesOrFails s s.pc) fun _ _ => completesOrFails_finish _ _ _

theorem callIf_completesOrFails (cc : Cond) (x : Word) (s : State) : CompletesOrFails s (callIf cc x s) := by
  unfold callIf
  split
  · exact callTo_completesOrFails _ _ _
  · exact completesOrFails_finish _ _ _

theorem returnFrom_completesOrFails (n : Nat) (s : State) : CompletesOrFails s (returnFrom n s) :=
  completesOrFails_andThen (pop16_completesOrFails s) fun _ _ _ => completesOrFails_finish _ _ _

theorem returnIf_completesOrFails (cc : Cond) (s : State) : CompletesOrFails s (returnIf cc s) := by
  unfold returnIf
  split
  · exact returnFrom_completesOrFails _ _
  · exact completesOrFails_finish _ _ _

theorem returnEnabling_completesOrFails (s : State) : CompletesOrFails s (returnEnabling s) :=
  completesOrFails_andThen (pop16_completesOrFails s) fun _ _ _ => completesOrFails_finish _ _ _

theorem fetch8_completesOrFails (s : State) : CompletesOrFails s (fetch8 s) :=
  completesOrFails_andThen (memRead_completesOrFails s s.pc) fun _ _ _ => completesOrFails_next _ _

theorem extendedOperation_completesOrFails (op : Byte) (s : State) : CompletesOrFails s (extendedOperation op s) := by
  unfold extendedOperation
  dsimp only
  split
  · exact modifyWithFlags_completesOrFails _ _ _ _
  · exact testBit_completesOrFails _ _ _
  · exact modifyPlain_completesOrFails _ _ _ _
  · exact modifyPlain_completesOrFails _ _ _ _

theorem execPrefixCb_completesOrFails (s : State) : CompletesOrFails s (execPrefixCb s) := by
  refine completesOrFails_andThen (fetch8_completesOrFails s) fun op t ht => ?_
  obtain ⟨-, rfl⟩ := fetch8_eq_next ht
  exact .after ⟨_, _, _, _, rfl, id⟩ (extendedOperation_completesOrFails op _)

/-- Every instruction but the eleven unresolved opcodes completes or fails in an access to memory. -/
theorem exec_completesOrFails {i : Instr} (hi : ∀ op, (op, i) ∉ Instr.unresolved) (s : State) :
    CompletesOrFails s (exec i s) := by
  cases i.shape with
  | unresolved op i hm => exact absurd hm (hi op)
  | ldRegReg dst src => exact exec_ldRegReg dst src s ▸ completesOrFails_finish _ _ _
  | ldRegImm dst v => exact exec_ldRegImm dst v s ▸ completesOrFails_finish _ _ _
  | ldRegIndHl dst => exact exec_ldRegIndHl dst s ▸ loadFrom_completesOrFails _ _ _ _
  | ldIndHlReg src => exact exec_ldIndHlReg src s ▸ storeTo_completesOrFails _ _ _ _
  | ldReg16Imm rr v => exact exec_ldReg16Imm rr v s ▸ completesOrFails_finish _ _ _
  | push p => exact exec_push p s ▸ pushPair_completesOrFails _ _
  | pop p => exact exec_pop p s ▸ popPair_completesOrFails _ _
  | alu op x => exact exec_alu op x s ▸ aluOperand_completesOrFails _ _ _
  | aluImm op v => exact exec_aluImm op v s ▸ completesOrFails_finish _ _ _
  | inc8 x => exact exec_inc8 x s ▸ modifyWithFlags_completesOrFails _ _ _ _
  | dec8 x => exact exec_dec8 x s ▸ modifyWithFlags_completesOrFails _ _ _ _
  | incReg16 rr => exact exec_incReg16 rr s ▸ completesOrFails_finish _ _ _
  | decReg16 rr => exact exec_decReg16 rr s ▸ completesOrFails_finish _ _ _
  | addHl rr => exact exec_addHl rr s ▸ completesOrFails_finish _ _ _
  | rot op x => exact exec_rot op x s ▸ modifyWithFlags_completesOrFails _ _ _ _
  | bit n x => exact exec_bit n x s ▸ testBit_completesOrFails _ _ _
  | res n x => exact exec_res n x s ▸ modifyPlain_completesOrFails _ _ _ _
  | set n x => exact exec_set n x s ▸ modifyPlain_completesOrFails _ _ _ _
  | jpCond cc x => exact exec_jpCond cc x s ▸ jumpIf_completesOrFails _ _ _ _ _
  | jrCond cc e => exact exec_jrCond cc e s ▸ jumpIf_completesOrFails _ _ _ _ _
  | callCond cc x => exact exec_callCond cc x s ▸ callIf_completesOrFails _ _ _
  | retCond cc => exact exec_retCond cc s ▸ returnIf_completesOrFails _ _
  | rst y => exact exec_rst y s ▸ callTo_completesOrFails _ _ _
  | ldIndBcA | ldIndDeA | ldIndHlD8 | ldhIndA8A | ldhIndCA | ldIndA16A => exact storeTo_completesOrFails _ _ _ _
  | ldAIndBc | ldAIndDe | ldhAIndA8 | ldhAIndC | ldAIndA16 => exact loadFrom_completesOrFails _ _ _ _
  | ldIndHlIncA | ldIndHlDecA => exact storeToHlThen_completesOrFails _ _
  | ldAIndHlInc | ldAIndHlDec => exact loadFromHlThen_completesOrFails _ _
  | ldIndA16Sp => exact storeSp_completesOrFails _ _
  | ret => exact returnFrom_completesOrFails _ _
  | reti => exact returnEnabling_completesOrFails _
  | callA16 => exact callTo_completesOrFails _ _ _
  | prefixCb => exact execPrefixCb_completesOrFails s
  | nop | stop | halt | di | ei | jrE8 | jpA16 | jpHl | rlca | rrca | rla | rra | daa | cpl | scf | ccf | addSpE8
  | ldHlSpE8 | ldSpHl => exact completesOrFails_finish _ _ _

/-- An instruction that ends in a fault is an unresolved opcode, or the Memory Unit failed one of its accesses. -/
theorem exec_eq_fault {i : Instr} {s : State} {x : Fault} (h : exec i s = .fault x) :
    (∃ op, (op, i) ∈ Instr.unresolved ∧ x = .unresolvedOpcode op (s.pc - 1#16) { s with faulted := true }) ∨
    ∃ info u, Accessed s u ∧ x = .memoryAccessFailure info { u with faulted := true } := by
  by_cases hi : ∃ op, (op, i) ∈ Instr.unresolved
  · obtain ⟨op, hm⟩ := hi
    exact .inl ⟨op, hm, (Host.Outcome.fault.inj ((exec_unresolved hm s).symm.trans h)).symm⟩
  · have hc := exec_completesOrFails (fun op hm => hi ⟨op, hm⟩) s
    rw [h] at hc
    exact .inr hc

end Sys2Proof.Machine
end

section
/-! The obligations of spec/00_scope.md. -/

namespace Sys2Proof.Machine

/-- Settles O18: the only faults of an instruction are its own unresolved opcode and a failing access to memory. -/
theorem noInstructionRaisesBitIndexOutOfRange : Obligations.NoInstructionRaisesBitIndexOutOfRange := by
  intro i s n h
  obtain ⟨_, _, hx⟩ | ⟨_, _, _, hx⟩ := exec_eq_fault h
  · cases hx
  · cases hx

/-- Settles O1: the last clause forces the bit twice, first to one and then to zero. -/
theorem bitPrimitivesReadForceAndFault : Obligations.BitPrimitivesReadForceAndFault := by
  refine ⟨fun v n hn => ?_, fun v n hn => hasBitSet_of_gt v hn, fun v n set hn => setBit_forces v set hn,
    fun v n set hn => setBit_of_gt v set hn, fun v n hn => ?_⟩
  · exact (hasBitSet_of_le v hn).trans (congrArg _ Nat.testBit_eq_decide_div_mod_eq)
  · obtain ⟨r, hr, -, hkeep⟩ := setBit_forces v true hn
    obtain ⟨q, hq, hclear, hkeep'⟩ := setBit_forces r false hn
    exact ⟨r, q, hr, hq, hclear, fun k hk => (hkeep' k hk).trans (hkeep k hk)⟩

/-- Settles O2 by the arithmetic of `lo`, `hi` and `join`. -/
theorem halvesOfAWordJoinBack : Obligations.HalvesOfAWordJoinBack :=
  fun v => ⟨lo_toNat v, hi_toNat v, join_hi_lo v⟩

end Sys2Proof.Machine
end

section
/-! SUPPORT. What every completed instruction, and so every step, does to F, the clock and the bits shown to the shell
(spec/10_state.md R24, R31, R34, R35). -/

namespace Sys2Proof.Machine

/-- A completed instruction is one of the five that write a bit shown to the shell, or it is ordinary. -/
theorem exec_eq_next_cases {i : Instr} {s t : State} (h : exec i s = .next t) :
    (i = .halt ∧ t = tick 1 { s with halted := true }) ∨
    (∃ v, i = .stop v ∧ t = tick 1 { s with stopped := true }) ∨
    (i = .di ∧ t = tick 1 { s with ime := false }) ∨
    (i = .ei ∧ t = tick 1 { s with ime := true }) ∨
    (i = .reti ∧ ∃ p q, t = tick 4 { s.afterPop with pc := p, sp := q, ime := true }) ∨
    (i ≠ .halt ∧ (∀ v, i ≠ .stop v) ∧ Ordinary s t) := by
  by_cases hHalt : i = .halt
  · subst hHalt
    exact .inl ⟨rfl, finish_eq_next h⟩
  by_cases hStop : ∃ v, i = .stop v
  · obtain ⟨v, rfl⟩ := hStop
    exact .inr (.inl ⟨v, rfl, finish_eq_next h⟩)
  by_cases hDi : i = .di
  · subst hDi
    exact .inr (.inr (.inl ⟨rfl, finish_eq_next h⟩))
  by_cases hEi : i = .ei
  · subst hEi
    exact .inr (.inr (.inr (.inl ⟨rfl, finish_eq_next h⟩)))
  by_cases hReti : i = .reti
  · subst hReti
    obtain ⟨l, g, -, ht⟩ := returnEnabling_eq_next h
    exact .inr (.inr (.inr (.inr (.inl ⟨rfl, _, _, ht⟩))))
  have hNotStop : ∀ v, i ≠ .stop v := fun v e => hStop ⟨v, e⟩
  exact .inr (.inr (.inr (.inr (.inr ⟨hHalt, hNotStop, exec_ordinary h hHalt hNotStop hDi hEi hReti⟩))))

/-- But for the three bits shown to the shell, every completed instruction is ordinary. -/
theorem exec_ordinary_upToBits {i : Instr} {s t : State} (h : exec i s = .next t) :
    ∃ im ha st, Ordinary { s with ime := im, halted := ha, stopped := st } t := by
  obtain ⟨-, rfl⟩ | ⟨v, -, rfl⟩ | ⟨-, rfl⟩ | ⟨-, rfl⟩ | ⟨-, p, q, rfl⟩ | ⟨-, -, ho⟩ := exec_eq_next_cases h
  · exact ⟨s.ime, true, s.stopped, finish_ordinary rfl⟩
  · exact ⟨s.ime, s.halted, true, finish_ordinary rfl⟩
  · exact ⟨false, s.halted, s.stopped, finish_ordinary rfl⟩
  · exact ⟨true, s.halted, s.stopped, finish_ordinary rfl⟩
  · exact ⟨true, s.halted, s.stopped, .of_tick 4 rfl rfl rfl rfl rfl rfl id id rfl⟩
  · exact ⟨s.ime, s.halted, s.stopped, ho⟩

/-- A completed step is an ordinary operation, but for what its fetch moves and the three bits shown to the shell. -/
theorem step_ordinary_upToBits {s t : State} (h : step s = .next t) :
    ∃ p u im ha st, Ordinary { s with pc := p, unit := u, ime := im, halted := ha, stopped := st } t := by
  obtain ⟨-, i, v, hf, he⟩ := step_eq_next h
  obtain ⟨p, u, rfl⟩ := fetchInstr_eq_next hf
  exact ⟨p, u, exec_ordinary_upToBits he⟩

/-- A `Tick` keeps the clock invariant, whatever it adds (R31, R32). -/
theorem ClockInv.of_tickClock {s t : State} {n : Nat} (hb : t.clockBits = s.clockBits)
    (hc : t.clk = tickClock s.clockBits s.clk n) (h : ClockInv s) : ClockInv t := by
  obtain ⟨-, -, -, hTotal⟩ := h
  have hpos : 0 < 2 ^ s.clockBits := Nat.two_pow_pos _
  unfold ClockInv
  rw [hb, hc]
  refine ⟨Nat.mod_lt _ hpos, Nat.mod_lt _ hpos, (Nat.mul_mod_mod ..).symm, ?_⟩
  calc (s.clk.totalT + 4 * n) % 2 ^ s.clockBits
      = (4 * (s.clk.totalM + n)) % 2 ^ s.clockBits := by rw [hTotal, Nat.mod_add_mod, Nat.mul_add]
    _ = (4 * ((s.clk.totalM + n) % 2 ^ s.clockBits)) % 2 ^ s.clockBits := (Nat.mul_mod_mod ..).symm

/-- Four zero counters are in range and in the ratio, whatever their width. -/
theorem ClockInv.of_zero {s : State} (h : s.clk = { m := 0, t := 0, totalM := 0, totalT := 0 }) : ClockInv s := by
  have hpos : 0 < 2 ^ s.clockBits := Nat.two_pow_pos _
  simp [ClockInv, h, hpos]

theorem inv_reset : Inv State.reset := ⟨rfl, .of_zero rfl, rfl⟩

end Sys2Proof.Machine
end

section
/-! SUPPORT. No rule of the core reads the clock, `ime`, `halted` or `stopped` (spec/10_state.md R31, R34, R35): each
operation, run on two states that differ in these alone, ends alike. Each shared operation once, then every instruction
by its shape. -/

namespace Sys2Proof.Machine

/-- Two states that differ at most in the clock, `ime`, `halted` and `stopped`. -/
def SameCore (s t : State) : Prop := s.withoutOutputs = t.withoutOutputs

/-- The state `s` with the clock, `ime`, `halted` and `stopped` of `o`. -/
def State.withOutputsOf (s o : State) : State :=
  { s with clk := o.clk, ime := o.ime, halted := o.halted, stopped := o.stopped }

/-- States with the same core are equal once they have the same outputs. -/
theorem SameCore.eq_withOutputsOf {s t : State} (h : SameCore s t) : ∃ o, t = s.withOutputsOf o := by
  refine ⟨t, ?_⟩
  have hs : s.withOutputsOf t = s.withoutOutputs.withOutputsOf t := rfl
  rw [hs, h]
  rfl

@[simp] theorem State.withOutputsOf_reg (s o : State) (r : Reg8) : (s.withOutputsOf o).reg r = s.reg r := by
  cases r <;> rfl

@[simp] theorem State.withOutputsOf_stackPair (s o : State) (p : StackPair) :
    (s.withOutputsOf o).stackPair p = s.stackPair p := by
  cases p <;> rfl

@[simp] theorem State.withOutputsOf_reg16 (s o : State) (rr : Reg16) :
    (s.withOutputsOf o).reg16 rr = s.reg16 rr := by
  cases rr <;> rfl

@[simp] theorem State.withOutputsOf_cond (s o : State) (cc : Cond) : (s.withOutputsOf o).cond cc = s.cond cc := by
  cases cc <;> rfl

theorem sameCore_setReg (s o : State) (r : Reg8) (v : Byte) :
    SameCore (s.setReg r v) ((s.withOutputsOf o).setReg r v) := by
  cases r <;> rfl

theorem sameCore_setReg16 (s o : State) (rr : Reg16) (v : Word) :
    SameCore (s.setReg16 rr v) ((s.withOutputsOf o).setReg16 rr v) := by
  cases rr <;> rfl

theorem sameCore_setStackPair (s o : State) (p : StackPair) (v : Word) :
    SameCore (s.setStackPair p v) ((s.withOutputsOf o).setStackPair p v) := by
  cases p <;> rfl

/-- Two results with the same value and the same core. -/
def SameResult {α : Type} (p q : α × State) : Prop := p.1 = q.1 ∧ SameCore p.2 q.2

/-- Two operations end alike: both complete with answers related by `R`, or both end in the same fault but for the
outputs of the core it leaves. -/
inductive Alike {β : Type} (R : β → β → Prop) : Host.Outcome β Fault Refusal → Host.Outcome β Fault Refusal → Prop where
  | next {t t' : β} (h : R t t') : Alike R (.next t) (.next t')
  | fault {x x' : Fault} (h : x.withoutOutputs = x'.withoutOutputs) : Alike R (.fault x) (.fault x')

theorem Alike.outcomeWithoutOutputs_eq {r r' : Out} (h : Alike SameCore r r') :
    outcomeWithoutOutputs r = outcomeWithoutOutputs r' := by
  cases h with
  | next h => exact congrArg Host.Outcome.next h
  | fault h => exact congrArg Host.Outcome.fault h

theorem Alike.andThen {α β : Type} {R : β → β → Prop} {r r' : Res α}
    {k k' : α → State → Host.Outcome β Fault Refusal} (hr : Alike SameResult r r')
    (hk : ∀ v t o, Alike R (k v t) (k' v (t.withOutputsOf o))) : Alike R (andThen r k) (andThen r' k') := by
  cases hr with
  | @next p p' h =>
    obtain ⟨v, t⟩ := p
    obtain ⟨v', t'⟩ := p'
    obtain ⟨hv, ht⟩ := h
    obtain rfl : v = v' := hv
    obtain ⟨o, rfl⟩ := SameCore.eq_withOutputsOf ht
    exact hk v t o
  | fault h => exact .fault h

theorem Alike.thenDo {β : Type} {R : β → β → Prop} {r r' : Out} {k k' : State → Host.Outcome β Fault Refusal}
    (hr : Alike SameCore r r') (hk : ∀ t o, Alike R (k t) (k' (t.withOutputsOf o))) :
    Alike R (thenDo r k) (thenDo r' k') := by
  cases hr with
  | next h =>
    obtain ⟨o, rfl⟩ := SameCore.eq_withOutputsOf h
    exact hk _ o
  | fault h => exact .fault h

theorem alike_finish (n : Nat) {t t' : State} (h : SameCore t t') : Alike SameCore (finish n t) (finish n t') := .next h

section
variable (s o : State)

theorem memRead_alike (x : Word) : Alike SameResult (memRead s x) (memRead (s.withOutputsOf o) x) := by
  match h : s.load x with
  | .ok v =>
    rw [memRead_ok h, memRead_ok (s := s.withOutputsOf o) h]
    exact .next ⟨rfl, rfl⟩
  | .error info =>
    rw [memRead_error h, memRead_error (s := s.withOutputsOf o) h]
    exact .fault rfl

theorem memWrite_alike (x : Word) (v : Byte) : Alike SameCore (memWrite s x v) (memWrite (s.withOutputsOf o) x v) := by
  match h : s.storeFailure x v with
  | none =>
    rw [memWrite_ok h, memWrite_ok (s := s.withOutputsOf o) h]
    exact .next rfl
  | some info =>
    rw [memWrite_fails h, memWrite_fails (s := s.withOutputsOf o) h]
    exact .fault rfl

theorem fetch8_alike : Alike SameResult (fetch8 s) (fetch8 (s.withOutputsOf o)) :=
  .andThen (memRead_alike s o s.pc) fun _ _ _ => .next ⟨rfl, rfl⟩

theorem fetch16_alike : Alike SameResult (fetch16 s) (fetch16 (s.withOutputsOf o)) :=
  .andThen (fetch8_alike s o) fun _ t o => .andThen (fetch8_alike t o) fun _ _ _ => .next ⟨rfl, rfl⟩

theorem fetchInstr_alike : Alike SameResult (fetchInstr s) (fetchInstr (s.withOutputsOf o)) := by
  refine .andThen (fetch8_alike s o) fun op t o => ?_
  split
  · exact .next ⟨rfl, rfl⟩
  · exact .andThen (fetch8_alike t o) fun _ _ _ => .next ⟨rfl, rfl⟩
  · exact .andThen (fetch16_alike t o) fun _ _ _ => .next ⟨rfl, rfl⟩
  · exact .andThen (fetch8_alike t o) fun _ _ _ => .next ⟨rfl, rfl⟩

theorem push16_alike (v : Word) : Alike SameCore (push16 s v) (push16 (s.withOutputsOf o) v) :=
  .thenDo (memWrite_alike (stackDown s) o _ _) fun t o => memWrite_alike (stackDown t) o _ _

theorem pop16_alike : Alike SameResult (pop16 s) (pop16 (s.withOutputsOf o)) :=
  .andThen (memRead_alike s o s.sp) fun _ t o =>
  .andThen (memRead_alike (stackUp t) o _) fun _ _ _ => .next ⟨rfl, rfl⟩

theorem readR8_alike (x : Operand8) : Alike SameResult (readR8 s x) (readR8 (s.withOutputsOf o) x) := by
  cases x with
  | reg r => exact .next ⟨(State.withOutputsOf_reg s o r).symm, rfl⟩
  | indHl => exact memRead_alike s o s.hl

theorem writeR8_alike (x : Operand8) (v : Byte) : Alike SameCore (writeR8 s x v) (writeR8 (s.withOutputsOf o) x v) := by
  cases x with
  | reg r => exact .next (sameCore_setReg s o r v)
  | indHl => exact memWrite_alike s o s.hl v

theorem ldRegReg_alike (dst src : Reg8) :
    Alike SameCore (ldRegReg dst src s) (ldRegReg dst src (s.withOutputsOf o)) := by
  unfold ldRegReg
  rw [State.withOutputsOf_reg]
  exact alike_finish 1 (sameCore_setReg s o dst _)

theorem loadFrom_alike (dst : Reg8) (x : Word) (n : Nat) :
    Alike SameCore (loadFrom dst x n s) (loadFrom dst x n (s.withOutputsOf o)) :=
  .andThen (memRead_alike s o x) fun v t o => alike_finish n (sameCore_setReg t o dst v)

theorem storeTo_alike (x : Word) (v : Byte) (n : Nat) :
    Alike SameCore (storeTo x v n s) (storeTo x v n (s.withOutputsOf o)) :=
  .thenDo (memWrite_alike s o x v) fun _ _ => alike_finish n rfl

theorem loadFromHlThen_alike (next : Word) :
    Alike SameCore (loadFromHlThen next s) (loadFromHlThen next (s.withOutputsOf o)) :=
  .andThen (memRead_alike s o s.hl) fun _ _ _ => alike_finish 2 rfl

theorem storeToHlThen_alike (next : Word) :
    Alike SameCore (storeToHlThen next s) (storeToHlThen next (s.withOutputsOf o)) :=
  .thenDo (memWrite_alike s o s.hl s.a) fun _ _ => alike_finish 2 rfl

theorem storeSp_alike (x : Word) : Alike SameCore (storeSp x s) (storeSp x (s.withOutputsOf o)) :=
  .thenDo (memWrite_alike s o x _) fun t o => .thenDo (memWrite_alike t o _ _) fun _ _ => alike_finish 5 rfl

theorem pushPair_alike (p : StackPair) : Alike SameCore (pushPair p s) (pushPair p (s.withOutputsOf o)) := by
  unfold pushPair
  rw [State.withOutputsOf_stackPair]
  exact .thenDo (push16_alike s o _) fun _ _ => alike_finish 4 rfl

theorem popPair_alike (p : StackPair) : Alike SameCore (popPair p s) (popPair p (s.withOutputsOf o)) :=
  .andThen (pop16_alike s o) fun v t o => alike_finish 3 (sameCore_setStackPair t o p v)

theorem aluOperand_alike (op : AluOp) (x : Operand8) :
    Alike SameCore (aluOperand op x s) (aluOperand op x (s.withOutputsOf o)) :=
  .andThen (readR8_alike s o x) fun _ _ _ => alike_finish _ rfl

/-- The result written back may depend on the state, as a rotate's does on the carry, but not on its outputs. -/
theorem modifyWithFlags_alike (x : Operand8) {f : State → Byte → Result8} (n : Nat)
    (hf : ∀ t v o, f (t.withOutputsOf o) v = f t v) :
    Alike SameCore (modifyWithFlags x f n s) (modifyWithFlags x f n (s.withOutputsOf o)) := by
  refine .andThen (readR8_alike s o x) fun v t o => ?_
  rw [hf]
  exact .thenDo (writeR8_alike t o x _) fun _ _ => alike_finish n rfl

theorem modifyPlain_alike (x : Operand8) (f : Byte → Byte) (n : Nat) :
    Alike SameCore (modifyPlain x f n s) (modifyPlain x f n (s.withOutputsOf o)) :=
  .andThen (readR8_alike s o x) fun _ t o => .thenDo (writeR8_alike t o x _) fun _ _ => alike_finish n rfl

theorem rotateOperand_alike (op : RotOp) (x : Operand8) :
    Alike SameCore (rotateOperand op x s) (rotateOperand op x (s.withOutputsOf o)) :=
  modifyWithFlags_alike s o x _ fun _ _ _ => rfl

theorem testBit_alike (b : Nat) (x : Operand8) :
    Alike SameCore (testBit b x s) (testBit b x (s.withOutputsOf o)) :=
  .andThen (readR8_alike s o x) fun _ _ _ => alike_finish _ rfl

theorem addToHl_alike (rr : Reg16) : Alike SameCore (addToHl rr s) (addToHl rr (s.withOutputsOf o)) := by
  unfold addToHl
  rw [State.withOutputsOf_reg16]
  exact alike_finish 2 rfl

theorem increment16_alike (rr : Reg16) : Alike SameCore (increment16 rr s) (increment16 rr (s.withOutputsOf o)) := by
  unfold increment16
  rw [State.withOutputsOf_reg16]
  exact alike_finish 2 (sameCore_setReg16 s o rr _)

theorem decrement16_alike (rr : Reg16) : Alike SameCore (decrement16 rr s) (decrement16 rr (s.withOutputsOf o)) := by
  unfold decrement16
  rw [State.withOutputsOf_reg16]
  exact alike_finish 2 (sameCore_setReg16 s o rr _)

theorem jumpIf_alike (cc : Cond) (x : Word) (n k : Nat) :
    Alike SameCore (jumpIf cc x n k s) (jumpIf cc x n k (s.withOutputsOf o)) := by
  unfold jumpIf
  rw [State.withOutputsOf_cond]
  split
  · exact alike_finish n rfl
  · exact alike_finish k rfl

theorem callTo_alike (x : Word) (n : Nat) : Alike SameCore (callTo x n s) (callTo x n (s.withOutputsOf o)) :=
  .thenDo (push16_alike s o s.pc) fun _ _ => alike_finish n rfl

theorem callIf_alike (cc : Cond) (x : Word) : Alike SameCore (callIf cc x s) (callIf cc x (s.withOutputsOf o)) := by
  unfold callIf
  rw [State.withOutputsOf_cond]
  split
  · exact callTo_alike s o x 6
  · exact alike_finish 3 rfl

theorem returnFrom_alike (n : Nat) : Alike SameCore (returnFrom n s) (returnFrom n (s.withOutputsOf o)) :=
  .andThen (pop16_alike s o) fun _ _ _ => alike_finish n rfl

theorem returnIf_alike (cc : Cond) : Alike SameCore (returnIf cc s) (returnIf cc (s.withOutputsOf o)) := by
  unfold returnIf
  rw [State.withOutputsOf_cond]
  split
  · exact returnFrom_alike s o 5
  · exact alike_finish 2 rfl

theorem returnEnabling_alike : Alike SameCore (returnEnabling s) (returnEnabling (s.withOutputsOf o)) :=
  .andThen (pop16_alike s o) fun _ _ _ => alike_finish 4 rfl

theorem extendedOperation_alike (op : Byte) :
    Alike SameCore (extendedOperation op s) (extendedOperation op (s.withOutputsOf o)) := by
  unfold extendedOperation
  dsimp only
  split
  · exact rotateOperand_alike s o _ _
  · exact testBit_alike s o _ _
  · exact modifyPlain_alike s o _ _ _
  · exact modifyPlain_alike s o _ _ _

theorem execPrefixCb_alike : Alike SameCore (execPrefixCb s) (execPrefixCb (s.withOutputsOf o)) :=
  .andThen (fetch8_alike s o) fun op t o => extendedOperation_alike t o op

/-- Every instruction, run on two states that differ in the outputs alone, ends alike. -/
theorem exec_alike (i : Instr) : Alike SameCore (exec i s) (exec i (s.withOutputsOf o)) := by
  cases i.shape with
  | unresolved op i hm => simp only [exec_unresolved hm]; exact .fault rfl
  | ldRegReg dst src => simp only [exec_ldRegReg]; exact ldRegReg_alike s o dst src
  | ldRegImm dst v => simp only [exec_ldRegImm]; exact alike_finish 2 (sameCore_setReg s o dst v)
  | ldRegIndHl dst => simp only [exec_ldRegIndHl]; exact loadFrom_alike s o _ _ _
  | ldIndHlReg src =>
    simp only [exec_ldIndHlReg, State.withOutputsOf_reg]
    exact storeTo_alike s o _ _ _
  | ldReg16Imm rr v => simp only [exec_ldReg16Imm]; exact alike_finish 3 (sameCore_setReg16 s o rr v)
  | push p => simp only [exec_push]; exact pushPair_alike s o p
  | pop p => simp only [exec_pop]; exact popPair_alike s o p
  | alu op x => simp only [exec_alu]; exact aluOperand_alike s o op x
  | aluImm op v => simp only [exec_aluImm]; exact alike_finish 2 rfl
  | inc8 x => simp only [exec_inc8]; exact modifyWithFlags_alike s o x _ fun _ _ _ => rfl
  | dec8 x => simp only [exec_dec8]; exact modifyWithFlags_alike s o x _ fun _ _ _ => rfl
  | incReg16 rr => simp only [exec_incReg16]; exact increment16_alike s o rr
  | decReg16 rr => simp only [exec_decReg16]; exact decrement16_alike s o rr
  | addHl rr => simp only [exec_addHl]; exact addToHl_alike s o rr
  | rot op x => simp only [exec_rot]; exact rotateOperand_alike s o op x
  | bit n x => simp only [exec_bit]; exact testBit_alike s o _ x
  | res n x => simp only [exec_res]; exact modifyPlain_alike s o x _ _
  | set n x => simp only [exec_set]; exact modifyPlain_alike s o x _ _
  | jpCond cc x => simp only [exec_jpCond]; exact jumpIf_alike s o cc x _ _
  | jrCond cc e => simp only [exec_jrCond]; exact jumpIf_alike s o cc _ _ _
  | callCond cc x => simp only [exec_callCond]; exact callIf_alike s o cc x
  | retCond cc => simp only [exec_retCond]; exact returnIf_alike s o cc
  | rst y => simp only [exec_rst]; exact callTo_alike s o _ _
  | ldIndBcA | ldIndDeA | ldIndHlD8 | ldhIndA8A | ldhIndCA | ldIndA16A => exact storeTo_alike s o _ _ _
  | ldAIndBc | ldAIndDe | ldhAIndA8 | ldhAIndC | ldAIndA16 => exact loadFrom_alike s o _ _ _
  | ldIndHlIncA | ldIndHlDecA => exact storeToHlThen_alike s o _
  | ldAIndHlInc | ldAIndHlDec => exact loadFromHlThen_alike s o _
  | ldIndA16Sp => exact storeSp_alike s o _
  | ret => exact returnFrom_alike s o _
  | reti => exact returnEnabling_alike s o
  | callA16 => exact callTo_alike s o _ _
  | prefixCb => exact execPrefixCb_alike s o
  | nop | stop | halt | di | ei | jrE8 | jpA16 | jpHl | rlca | rrca | rla | rra | daa | cpl | scf | ccf | addSpE8
  | ldHlSpE8 | ldSpHl => exact alike_finish _ rfl

/-- A step of two states that differ in the outputs alone ends alike. -/
theorem step_alike : Alike SameCore (step s) (step (s.withOutputsOf o)) := by
  have hf : (s.withOutputsOf o).faulted = s.faulted := rfl
  unfold step stepWith
  rw [hf]
  split
  · exact .fault rfl
  · exact .andThen (fetchInstr_alike s o) fun i t o => exec_alike t o i

end

end Sys2Proof.Machine
end

section
/-! The obligations of spec/10_state.md. -/

namespace Sys2Proof.Machine

/-- Settles O7: a completed step is ordinary in all that F depends on. -/
theorem stepKeepsFlagNibbleZero : Obligations.StepKeepsFlagNibbleZero := by
  refine ⟨inv_reset.1, fun s t hs h => ?_⟩
  obtain ⟨p, u, im, ha, st, ho⟩ := step_ordinary_upToBits h
  exact ho.flags hs

/-- Settles O8: a completed step ticks the clock once. -/
theorem stepKeepsClockRatio : Obligations.StepKeepsClockRatio := by
  intro s t hs h
  obtain ⟨p, u, im, ha, st, ho⟩ := step_ordinary_upToBits h
  obtain ⟨n, hn⟩ := ho.clk
  exact hs.of_tickClock ho.clockBits hn

/-- Settles O21: the five instructions that write a bit shown to the shell one by one, the others being ordinary. -/
theorem onlyTheNamedInstructionsWriteTheOutputs : Obligations.OnlyTheNamedInstructionsWriteTheOutputs := by
  intro i s t h
  obtain ⟨rfl, rfl⟩ | ⟨v, rfl, rfl⟩ | ⟨rfl, rfl⟩ | ⟨rfl, rfl⟩ | ⟨rfl, p, q, rfl⟩ | ⟨hHalt, hStop, ho⟩ :=
    exec_eq_next_cases h
  · simp
  · simp
  · simp
  · simp
  · simp
  · exact ⟨fun _ => ho.halted, fun e => absurd e hHalt, fun _ => ho.stopped, fun ⟨v, e⟩ => absurd e (hStop v),
      fun _ _ _ => ho.ime, ho.faulted, ho.regions, ho.clockBits⟩

/-- Settles O22: the second state is the first with other outputs. -/
theorem clockAndOutputsAreNeverRead : Obligations.ClockAndOutputsAreNeverRead := by
  intro s s' h
  obtain ⟨o, rfl⟩ := SameCore.eq_withOutputsOf h
  exact (step_alike s o).outcomeWithoutOutputs_eq

/-- Settles O3: a pair reads as the join of its registers, and a word is the join of its halves. -/
theorem pairsAreTheirTwoRegisters : Obligations.PairsAreTheirTwoRegisters := by
  refine ⟨fun s => ⟨?_, ?_, ?_⟩, fun s v => ⟨rfl, rfl, rfl⟩, fun s rr v => ?_⟩
  · exact (join_toNat s.b s.c).trans (by omega)
  · exact (join_toNat s.d s.e).trans (by omega)
  · exact (join_toNat s.h s.l).trans (by omega)
  · cases rr with
    | sp => rfl
    | bc | de | hl => exact join_hi_lo v

/-- Settles O4 by the construction itself. -/
theorem resetValuesAreTheSpecs : Obligations.ResetValuesAreTheSpecs := by
  refine ⟨fun mem regions unit bits => ⟨fun r => ?_, ?_⟩, rfl⟩
  · cases r <;> rfl
  · exact ⟨rfl, rfl, rfl, rfl, rfl, rfl, rfl, rfl, rfl, rfl, rfl, rfl, rfl, rfl, rfl⟩

/-- Settles O5 by the bits of `flagByte`. -/
theorem flagsWriteTheHighNibbleOfF : Obligations.FlagsWriteTheHighNibbleOfF :=
  fun _ _ _ _ _ => ⟨flagByte_z _ _ _ _, flagByte_n _ _ _ _, flagByte_h _ _ _ _, flagByte_c _ _ _ _,
    flagByte_low _ _ _ _, rfl⟩

/-- Settles O6: F is zero, so are the counters, and no memory is listed. -/
theorem resetMeetsTheInvariant : Obligations.ResetMeetsTheInvariant := inv_reset

/-- Settles O23: zero counters are below every power of two and in the ratio. -/
theorem clockResetZeroesTheFourCounters : Obligations.ClockResetZeroesTheFourCounters :=
  fun _ => ⟨rfl, rfl, rfl, rfl, rfl, .of_zero rfl⟩

end Sys2Proof.Machine
end

section
/-! SUPPORT. What an access does by the kind of its address (spec/20_memory.md R51 to R53, R69): answered by the Memory
Unit itself, RAM, or failing; and the stack on RAM (R58, R59). -/

namespace Sys2Proof.Machine

theorem State.load_of_unit {s : State} {x : Word} (h : readPolicyAt s.regions x = .unit) :
    s.load x = (Config.unitRead s.unit x).1 := by
  unfold State.load
  rw [h]

theorem State.storeFailure_of_unit {s : State} {x : Word} (v : Byte) (h : writePolicyAt s.regions x = .unit) :
    s.storeFailure x v = (Config.unitWrite s.unit x v).1 := by
  unfold State.storeFailure
  rw [h]

theorem memRead_of_unit {s : State} {x : Word} (h : readPolicyAt s.regions x = .unit) :
    memRead s x = match Config.unitRead s.unit x with
      | (.ok v, u) => .next (v, { s with unit := u })
      | (.error info, u) => .fault (.memoryAccessFailure info { s with unit := u, faulted := true }) := by
  have hl := State.load_of_unit h
  have ha := State.afterLoad_of_unit h
  match e : Config.unitRead s.unit x with
  | (.ok v, u) =>
    rw [e] at hl ha
    rw [memRead_ok hl, ha]
  | (.error info, u) =>
    rw [e] at hl ha
    rw [memRead_error hl, ha]

theorem memWrite_of_unit {s : State} {x : Word} {v : Byte} (h : writePolicyAt s.regions x = .unit) :
    memWrite s x v = match Config.unitWrite s.unit x v with
      | (none, u) => .next { s with unit := u }
      | (some info, u) => .fault (.memoryAccessFailure info { s with unit := u, faulted := true }) := by
  have hf := State.storeFailure_of_unit v h
  have ha := State.afterStore_of_unit v h
  match e : Config.unitWrite s.unit x v with
  | (none, u) =>
    rw [e] at hf ha
    rw [memWrite_ok hf, ha]
  | (some info, u) =>
    rw [e] at hf ha
    rw [memWrite_fails hf, ha]

/-- A write that fails outside the Memory Unit's own ranges changes nothing. -/
theorem State.afterStore_of_storeFailure {s : State} {x : Word} {v : Byte} {info : MemInfo}
    (h : s.storeFailure x v = some info) (hu : writePolicyAt s.regions x ≠ .unit) : s.afterStore x v = s := by
  match hp : writePolicyAt s.regions x with
  | .fails _ => exact State.afterStore_of_fails v hp
  | .unit => exact absurd hp hu
  | .stored | .ignored => simp [State.storeFailure, hp] at h

theorem State.isRam.load {s : State} {x : Word} (h : s.isRam x) : s.load x = .ok (Memory.get s.mem x.toNat) := by
  unfold State.load
  rw [h.1]

theorem State.isRam.afterLoad {s : State} {x : Word} (h : s.isRam x) : s.afterLoad x = s :=
  State.afterLoad_of_plain (by rw [h.1]; exact ReadPolicy.noConfusion)

theorem memRead_of_isRam {s : State} {x : Word} (h : s.isRam x) :
    memRead s x = .next (Memory.get s.mem x.toNat, s) := by
  rw [memRead_ok h.load, h.afterLoad]

theorem memWrite_of_isRam {s : State} {x : Word} (h : s.isRam x) (v : Byte) :
    memWrite s x v = .next { s with mem := Memory.set s.mem x.toNat v } := by
  rw [memWrite_ok (h.canWrite v), State.afterStore_of_stored v h.2]

/-- The default Memory Unit is RAM at every address (R69). -/
theorem State.isRam_of_flat {s : State} (h : s.regions = []) (x : Word) : s.isRam x := by
  simp [State.isRam, readPolicyAt, writePolicyAt, h]

/-- On flat RAM a write completes and is read back, and every other address reads as before (R69). -/
theorem memWrite_flat {s : State} (x : Word) (v : Byte) (hr : s.regions = []) (hm : MemInv s) :
    ∃ t, memWrite s x v = .next t ∧ t = { s with mem := t.mem } ∧ MemInv t ∧ memRead t x = .next (v, t) ∧
      ∀ y, y ≠ x → ∃ w, memRead s y = .next (w, s) ∧ memRead t y = .next (w, t) := by
  have hs := State.isRam_of_flat hr
  have ht := State.isRam_of_flat (s := { s with mem := Memory.set s.mem x.toNat v }) hr
  refine ⟨_, memWrite_of_isRam (hs x) v, rfl, Memory.set_wf s.mem x v hm, ?_,
    fun y hy => ⟨_, memRead_of_isRam (hs y), ?_⟩⟩
  · rw [memRead_of_isRam (ht x), Memory.get_set_same _ _ _ hm]
  · rw [memRead_of_isRam (ht y), Memory.get_set_other _ v fun e => hy (BitVec.eq_of_toNat_eq e)]

theorem State.canPush_of_isRam {s : State} (v : Word) (h1 : s.isRam (s.sp - 1#16)) (h2 : s.isRam (s.sp - 2#16)) :
    s.canPush v :=
  ⟨h1.canWrite _, State.isRam.canWrite (s := s.afterStore _ _) h2 _⟩

/-- On RAM a pop after a push reads the two bytes pushed, and the reads change nothing. -/
theorem pop16_pushedState {s : State} (v : Word) (hm : MemInv s) (h1 : s.isRam (s.sp - 1#16))
    (h2 : s.isRam (s.sp - 2#16)) : pop16 (pushedState s v) = .next (v, { pushedState s v with sp := s.sp }) := by
  have e1 : s.sp - 2#16 + 1#16 = s.sp - 1#16 := by bv_omega
  have e2 : s.sp - 2#16 + 2#16 = s.sp := by bv_omega
  have hl1 : (pushedState s v).afterLoad (s.sp - 1#16) = pushedState s v := State.isRam.afterLoad h1
  have hl2 : (pushedState s v).afterLoad (s.sp - 2#16) = pushedState s v := State.isRam.afterLoad h2
  have hp : (pushedState s v).popReads (lo v) (hi v) := by
    obtain ⟨⟨-, ⟨hHigh, -⟩, ⟨hLow, -⟩, -⟩, -⟩ := pushed_pushedState s v
    refine ⟨hLow hm h2, ?_⟩
    rw [pushedState_sp, hl2, e1]
    exact hHigh hm h1
  rw [pop16_ok hp, State.afterPop, pushedState_sp, hl2, e1, hl1, join_hi_lo, e2]

end Sys2Proof.Machine
end

section
/-! SUPPORT. The instruction an entry of the primary table gives once the operand after the opcode is known, and its
bytes (spec/30_encoding.md R71, R72, R81 to R85). -/

namespace Sys2Proof

open Machine

/-- The instruction of an entry with the operand `v`; an operand of one byte is the low half of `v`. -/
def Entry.instr (v : Word) : Entry → Instr
  | .alone i => i
  | .imm8 k => k (lo v)
  | .imm16 k => k v
  | .extended => Sys2Proof.extended (lo v)

/-- The bytes of the operand `v` after the opcode of an entry. -/
def Entry.operandBytes (v : Word) : Entry → List Byte
  | .alone _ => []
  | .imm8 _ => [lo v]
  | .imm16 _ => [lo v, hi v]
  | .extended => [lo v]

theorem encode_extended (op2 : Byte) : encode (extended op2) = [0xCB#8, op2] := by
  revert op2
  decide

/-- The instruction the primary table gives for an opcode is encoded with that opcode and the operand's bytes: the
prefix by the extended table, every other opcode by its own row. -/
theorem encode_primary_instr (op : Byte) (v : Word) :
    encode ((primary op).instr v) = op :: (primary op).operandBytes v := by
  obtain ⟨n⟩ := op
  fin_cases n
  -- goal 204 is the prefix 0xCB
  on_goal 204 => exact encode_extended (lo v)
  all_goals rfl

/-- An unresolved opcode is encoded as itself alone (R84). -/
theorem encode_unresolved {op : Byte} {i : Instr} (h : (op, i) ∈ Instr.unresolved) : encode i = [op] := by
  have hall : ∀ p ∈ Instr.unresolved, encode p.2 = [p.1] := by decide
  exact hall _ h

/-- An opcode that is not one of the eleven gives no unresolved instruction, whatever its operand (R234). -/
theorem primary_instr_resolved {op : Byte} (h : op ∉ Instr.unresolved.map Prod.fst) (v : Word) (o : Byte) :
    (o, (primary op).instr v) ∉ Instr.unresolved := by
  intro hm
  have he : op :: (primary op).operandBytes v = [o] := (encode_primary_instr op v).symm.trans (encode_unresolved hm)
  obtain ⟨rfl, -⟩ := List.cons.inj he
  exact h (List.mem_map_of_mem hm)

end Sys2Proof
end

section
/-! SUPPORT. Fetching (spec/20_memory.md R56, R57; spec/30_encoding.md R70): the opcode, then what its entry in the
primary table asks for. -/

namespace Sys2Proof.Machine

/-- The state after the opcode byte is fetched. -/
def State.afterOpcode (s : State) : State := { s.afterLoad s.pc with pc := s.pc + 1#16 }

/-- Fetching what follows an opcode, as its entry says. -/
def fetchOperand (e : Entry) (s : State) : Res Instr :=
  match e with
  | .alone i => .next (i, s)
  | .imm8 k => andThen (fetch8 s) fun v t => .next (k v, t)
  | .imm16 k => andThen (fetch16 s) fun v t => .next (k v, t)
  | .extended => andThen (fetch8 s) fun op2 t => .next (extended op2, t)

theorem fetchInstr_ok {s : State} {op : Byte} (h : s.load s.pc = .ok op) :
    fetchInstr s = fetchOperand (primary op) s.afterOpcode := by
  unfold fetchInstr
  rw [fetch8_ok h]
  rfl

theorem fetchInstr_fails {s : State} {info : MemInfo} (h : s.load s.pc = .error info) :
    fetchInstr s = .fault (.memoryAccessFailure info { s.afterLoad s.pc with faulted := true }) := by
  unfold fetchInstr
  rw [fetch8_fails h]
  rfl

/-- The entry of an opcode of two or more bytes asks for a byte, which may fail. -/
theorem fetchOperand_fails_first {op : Byte} {s : State} {info : MemInfo} (hn : 2 ≤ lengthFromFirst op)
    (h : s.load s.pc = .error info) : fetchOperand (primary op) s =
      .fault (.memoryAccessFailure info { s.afterLoad s.pc with faulted := true }) := by
  unfold lengthFromFirst at hn
  cases he : primary op with
  | alone i => simp [he] at hn
  | imm8 k | extended => rw [fetchOperand, fetch8_fails h, andThen_fault]
  | imm16 k => rw [fetchOperand, fetch16_fails_first h, andThen_fault]

/-- The entry of an opcode of three bytes asks for two, the second of which may fail. -/
theorem fetchOperand_fails_second {op l : Byte} {s : State} {info : MemInfo} (hn : lengthFromFirst op = 3)
    (hl : s.load s.pc = .ok l) (h : (s.afterLoad s.pc).load (s.pc + 1#16) = .error info) :
    fetchOperand (primary op) s = .fault (.memoryAccessFailure info
      { (s.afterLoad s.pc).afterLoad (s.pc + 1#16) with pc := s.pc + 1#16, faulted := true }) := by
  unfold lengthFromFirst at hn
  cases he : primary op with
  | alone i | imm8 k | extended => simp [he] at hn
  | imm16 k => rw [fetchOperand, fetch16_fails_second hl h, andThen_fault]

theorem step_of_not_faulted {s : State} (hf : s.faulted = false) : step s = andThen (fetchInstr s) exec :=
  if_neg (by simp [hf])

end Sys2Proof.Machine
end

section
/-! SUPPORT. On flat RAM (spec/20_memory.md R69) no access fails, so every operation completes. Each shared operation
once, then every instruction by its shape. -/

namespace Sys2Proof.Machine

/-- The operation answers a next state. -/
def Completes {β : Type} (r : Host.Outcome β Fault Refusal) : Prop := ∃ t, r = .next t

theorem Completes.andThen {α β : Type} {r : Res α} {v : α} {t : State} {k : α → State → Host.Outcome β Fault Refusal}
    (hr : r = .next (v, t)) (hk : Completes (k v t)) : Completes (andThen r k) := hr ▸ hk

theorem Completes.thenDo {β : Type} {r : Out} {t : State} {k : State → Host.Outcome β Fault Refusal}
    (hr : r = .next t) (hk : Completes (k t)) : Completes (thenDo r k) := hr ▸ hk

theorem completes_finish (n : Nat) (t : State) : Completes (finish n t) := ⟨_, rfl⟩

theorem jumpIf_completes (cc : Cond) (x : Word) (n k : Nat) (s : State) : Completes (jumpIf cc x n k s) := by
  unfold jumpIf
  split
  · exact completes_finish _ _
  · exact completes_finish _ _

@[simp] theorem State.afterOperand_regions (s : State) (x : Operand8) : (s.afterOperand x).regions = s.regions := by
  cases x <;> rfl

section
variable {s : State} (hs : s.regions = [])
include hs

theorem load_flat (x : Word) : ∃ v, s.load x = .ok v := ⟨_, (State.isRam_of_flat hs x).load⟩

theorem canWrite_flat (x : Word) (v : Byte) : s.canWrite x v := (State.isRam_of_flat hs x).canWrite v

theorem canPush_flat (v : Word) : s.canPush v :=
  State.canPush_of_isRam v (State.isRam_of_flat hs _) (State.isRam_of_flat hs _)

theorem popReads_flat : ∃ l g, s.popReads l g := by
  obtain ⟨l, hl⟩ := load_flat hs s.sp
  obtain ⟨g, hg⟩ := load_flat (s := s.afterLoad s.sp) hs (s.sp + 1#16)
  exact ⟨l, g, hl, hg⟩

theorem operandHolds_flat (x : Operand8) : ∃ v, OperandHolds x v s := by
  cases x with
  | reg r => exact ⟨_, rfl⟩
  | indHl => exact load_flat hs s.hl

theorem operandWritable_flat (x : Operand8) (v : Byte) : OperandWritable x v s := by
  cases x with
  | reg r => trivial
  | indHl => exact canWrite_flat hs s.hl v

theorem loadFrom_completes (dst : Reg8) (x : Word) (n : Nat) : Completes (loadFrom dst x n s) := by
  obtain ⟨v, h⟩ := load_flat hs x
  exact ⟨_, loadFrom_ok dst n h⟩

theorem storeTo_completes (x : Word) (v : Byte) (n : Nat) : Completes (storeTo x v n s) :=
  ⟨_, storeTo_ok n (canWrite_flat hs x v)⟩

theorem loadFromHlThen_completes (next : Word) : Completes (loadFromHlThen next s) := by
  obtain ⟨v, h⟩ := load_flat hs s.hl
  exact .andThen (memRead_ok h) (completes_finish _ _)

theorem storeToHlThen_completes (next : Word) : Completes (storeToHlThen next s) :=
  .thenDo (memWrite_ok (canWrite_flat hs _ _)) (completes_finish _ _)

theorem storeSp_completes (x : Word) : Completes (storeSp x s) :=
  .thenDo (memWrite_ok (canWrite_flat hs x _))
    (.thenDo (memWrite_ok (canWrite_flat (s := s.afterStore x _) hs _ _)) (completes_finish _ _))

theorem pushPair_completes (p : StackPair) : Completes (pushPair p s) :=
  .thenDo (push16_ok (canPush_flat hs _)) (completes_finish _ _)

theorem popPair_completes (p : StackPair) : Completes (popPair p s) := by
  obtain ⟨l, g, h⟩ := popReads_flat hs
  exact .andThen (pop16_ok h) (completes_finish _ _)

theorem aluOperand_completes (op : AluOp) (x : Operand8) : Completes (aluOperand op x s) := by
  obtain ⟨v, h⟩ := operandHolds_flat hs x
  exact .andThen (readR8_of_holds h) (completes_finish _ _)

theorem testBit_completes (b : Nat) (x : Operand8) : Completes (testBit b x s) := by
  obtain ⟨v, h⟩ := operandHolds_flat hs x
  exact .andThen (readR8_of_holds h) (completes_finish _ _)

theorem modifyWithFlags_completes (x : Operand8) (f : State → Byte → Result8) (n : Nat) :
    Completes (modifyWithFlags x f n s) := by
  obtain ⟨v, h⟩ := operandHolds_flat hs x
  exact ⟨_, modifyWithFlags_ok h (operandWritable_flat (by simp [hs]) x _)⟩

theorem modifyPlain_completes (x : Operand8) (f : Byte → Byte) (n : Nat) : Completes (modifyPlain x f n s) := by
  obtain ⟨v, h⟩ := operandHolds_flat hs x
  exact ⟨_, modifyPlain_ok h (operandWritable_flat (by simp [hs]) x _)⟩

theorem callTo_completes (x : Word) (n : Nat) : Completes (callTo x n s) :=
  .thenDo (push16_ok (canPush_flat hs _)) (completes_finish _ _)

theorem callIf_completes (cc : Cond) (x : Word) : Completes (callIf cc x s) := by
  unfold callIf
  split
  · exact callTo_completes hs _ _
  · exact completes_finish _ _

theorem returnFrom_completes (n : Nat) : Completes (returnFrom n s) := by
  obtain ⟨l, g, h⟩ := popReads_flat hs
  exact .andThen (pop16_ok h) (completes_finish _ _)

theorem returnIf_completes (cc : Cond) : Completes (returnIf cc s) := by
  unfold returnIf
  split
  · exact returnFrom_completes hs _
  · exact completes_finish _ _

theorem returnEnabling_completes : Completes (returnEnabling s) := by
  obtain ⟨l, g, h⟩ := popReads_flat hs
  exact .andThen (pop16_ok h) (completes_finish _ _)

theorem extendedOperation_completes (op : Byte) : Completes (extendedOperation op s) := by
  unfold extendedOperation
  dsimp only
  split
  · exact modifyWithFlags_completes hs _ _ _
  · exact testBit_completes hs _ _
  · exact modifyPlain_completes hs _ _ _
  · exact modifyPlain_completes hs _ _ _

theorem execPrefixCb_completes : Completes (execPrefixCb s) := by
  obtain ⟨op, h⟩ := load_flat hs s.pc
  exact .andThen (fetch8_ok h) (extendedOperation_completes (s := { s.afterLoad s.pc with pc := s.pc + 1#16 }) hs op)

/-- On flat RAM every instruction but the eleven unresolved opcodes completes. -/
theorem exec_completes {i : Instr} (hi : ∀ op, (op, i) ∉ Instr.unresolved) : Completes (exec i s) := by
  cases i.shape with
  | unresolved op i hm => exact absurd hm (hi op)
  | ldRegReg dst src => exact exec_ldRegReg dst src s ▸ completes_finish _ _
  | ldRegImm dst v => exact exec_ldRegImm dst v s ▸ completes_finish _ _
  | ldRegIndHl dst => exact exec_ldRegIndHl dst s ▸ loadFrom_completes hs _ _ _
  | ldIndHlReg src => exact exec_ldIndHlReg src s ▸ storeTo_completes hs _ _ _
  | ldReg16Imm rr v => exact exec_ldReg16Imm rr v s ▸ completes_finish _ _
  | push p => exact exec_push p s ▸ pushPair_completes hs p
  | pop p => exact exec_pop p s ▸ popPair_completes hs p
  | alu op x => exact exec_alu op x s ▸ aluOperand_completes hs op x
  | aluImm op v => exact exec_aluImm op v s ▸ completes_finish _ _
  | inc8 x => exact exec_inc8 x s ▸ modifyWithFlags_completes hs x _ _
  | dec8 x => exact exec_dec8 x s ▸ modifyWithFlags_completes hs x _ _
  | incReg16 rr => exact exec_incReg16 rr s ▸ completes_finish _ _
  | decReg16 rr => exact exec_decReg16 rr s ▸ completes_finish _ _
  | addHl rr => exact exec_addHl rr s ▸ completes_finish _ _
  | rot op x => exact exec_rot op x s ▸ modifyWithFlags_completes hs x _ _
  | bit n x => exact exec_bit n x s ▸ testBit_completes hs _ x
  | res n x => exact exec_res n x s ▸ modifyPlain_completes hs x _ _
  | set n x => exact exec_set n x s ▸ modifyPlain_completes hs x _ _
  | jpCond cc x => exact exec_jpCond cc x s ▸ jumpIf_completes _ _ _ _ _
  | jrCond cc e => exact exec_jrCond cc e s ▸ jumpIf_completes _ _ _ _ _
  | callCond cc x => exact exec_callCond cc x s ▸ callIf_completes hs cc x
  | retCond cc => exact exec_retCond cc s ▸ returnIf_completes hs cc
  | rst y => exact exec_rst y s ▸ callTo_completes hs _ _
  | ldIndBcA | ldIndDeA | ldIndHlD8 | ldhIndA8A | ldhIndCA | ldIndA16A => exact storeTo_completes hs _ _ _
  | ldAIndBc | ldAIndDe | ldhAIndA8 | ldhAIndC | ldAIndA16 => exact loadFrom_completes hs _ _ _
  | ldIndHlIncA | ldIndHlDecA => exact storeToHlThen_completes hs _
  | ldAIndHlInc | ldAIndHlDec => exact loadFromHlThen_completes hs _
  | ldIndA16Sp => exact storeSp_completes hs _
  | ret => exact returnFrom_completes hs _
  | reti => exact returnEnabling_completes hs
  | callA16 => exact callTo_completes hs _ _
  | prefixCb => exact execPrefixCb_completes hs
  | nop | stop | halt | di | ei | jrE8 | jpA16 | jpHl | rlca | rrca | rla | rra | daa | cpl | scf | ccf | addSpE8
  | ldHlSpE8 | ldSpHl => exact completes_finish _ _

/-- On flat RAM the operand of any entry is fetched, and the entry's instruction with it. -/
theorem fetchOperand_flat (e : Entry) : ∃ v t, fetchOperand e s = .next (e.instr v, t) ∧ t.regions = [] := by
  obtain ⟨l, hl⟩ := load_flat hs s.pc
  obtain ⟨g, hg⟩ := load_flat (s := s.afterLoad s.pc) hs (s.pc + 1#16)
  cases e with
  | alone i => exact ⟨0#16, s, rfl, hs⟩
  | imm8 k | extended =>
    refine ⟨join 0#8 l, s.afterOpcode, ?_, hs⟩
    rw [fetchOperand, fetch8_ok hl, andThen_next, Entry.instr, lo_join, State.afterOpcode]
  | imm16 k =>
    refine ⟨join g l, { (s.afterLoad s.pc).afterLoad (s.pc + 1#16) with pc := s.pc + 2#16 }, ?_, hs⟩
    rw [fetchOperand, fetch16_ok hl hg, andThen_next, Entry.instr]

end

end Sys2Proof.Machine
end

section
/-! The obligations of spec/20_memory.md. -/

namespace Sys2Proof.Machine

/-- Settles O9: a completed step is ordinary, but for what its fetch moves and the bits shown to the shell, none of
which is memory. -/
theorem stepKeepsMemoryCanonical : Obligations.StepKeepsMemoryCanonical := by
  intro s t hs h
  obtain ⟨p, u, im, ha, st, ho⟩ := step_ordinary_upToBits h
  exact ho.mem hs

/-- Settles O19: the fetch gives a resolved instruction, and on flat RAM it completes. -/
theorem everyResolvedOpcodeCompletesOnFlatMemory : Obligations.EveryResolvedOpcodeCompletesOnFlatMemory := by
  intro s op hs hf hop hne
  obtain ⟨v, t, hfetch, ht⟩ := fetchOperand_flat (s := s.afterOpcode) hs (primary op)
  obtain ⟨u, hu⟩ := exec_completes ht (primary_instr_resolved hne v)
  refine ⟨u, ?_⟩
  rw [step_of_not_faulted hf, fetchInstr_ok hop, hfetch]
  exact hu

/-- Settles O20: the first fetch fails, or the fetch of what the opcode's entry asks for does. -/
theorem failingFetchEndsTheStep : Obligations.FailingFetchEndsTheStep := by
  intro s info hf
  dsimp only
  rw [step_of_not_faulted hf]
  refine ⟨fun h => ?_, fun op hop hn h => ?_, fun op v hop hn hv h => ?_⟩
  · rw [fetchInstr_fails h]
    rfl
  · rw [fetchInstr_ok hop, fetchOperand_fails_first (s := s.afterOpcode) hn h]
    rfl
  · have e : s.afterOpcode.pc + 1#16 = s.pc + 2#16 := add_one_add_one s.pc
    rw [fetchInstr_ok hop, fetchOperand_fails_second (s := s.afterOpcode) hn hv (e ▸ h), e]
    rfl

/-- Settles O24: `push16_ok` and `pop16_ok` say what each does; on RAM the pop reads the two bytes stored. -/
theorem popAfterPushRestores : Obligations.PopAfterPushRestores := by
  refine ⟨fun s v h => ⟨_, push16_ok h, rfl, pushed_pushedState s v⟩, fun s l g h => ⟨_, pop16_ok h, ?_⟩,
    fun s v hm h1 h2 => ⟨_, push16_ok (State.canPush_of_isRam v h1 h2), pop16_pushedState v hm h1 h2⟩⟩
  rw [join_toNat]
  omega

/-- Settles O25 by one law per kind of access. -/
theorem memoryUnitAnswersEveryAccess : Obligations.MemoryUnitAnswersEveryAccess :=
  ⟨fun _ _ => memRead_of_unit, fun _ _ _ => memWrite_of_unit, fun _ _ => State.afterLoad_of_plain,
    fun _ _ _ => memRead_ok, fun _ _ _ => memRead_error,
    fun s x v h => ⟨memWrite_ok h, stores_afterStore s x v, rfl⟩,
    fun _ _ _ _ h => ⟨memWrite_fails h, State.afterStore_of_storeFailure h⟩, fun _ => memWrite_flat⟩

end Sys2Proof.Machine
end

section
/-! SUPPORT. What the decoder reads (spec/30_encoding.md R71, R72, R81 to R85): an opcode and the operand bytes that its
entry in the primary table asks for. -/

namespace Sys2Proof

open Machine

/-- The prefix byte is the only opcode whose entry is the extended table's. -/
theorem eq_prefix_of_primary {op : Byte} (h : primary op = .extended) : op = 0xCB#8 := by
  have hop := encode_primary_instr op 0#16
  rw [h, Entry.instr, encode_extended] at hop
  exact (List.cons.inj hop).1.symm

/-- The decoder reads an opcode and the operand its entry asks for, and leaves the bytes after them. -/
theorem decode_primary (op : Byte) (v : Word) (rest : List Byte) :
    decode (op :: (primary op).operandBytes v ++ rest) = .ok ((primary op).instr v, rest) := by
  unfold decode
  cases he : primary op with
  | alone i | imm8 k | imm16 k | extended => simp [he, Entry.operandBytes, Entry.instr]

/-- What the decoder can read: an opcode with the operand its entry asks for, or the prefix byte with nothing after it,
which is the row `PREFIX CB`. -/
theorem decode_eq_ok {bs rest : List Byte} {i : Instr} (h : decode bs = .ok (i, rest)) :
    (∃ op v, i = (primary op).instr v ∧ bs = op :: (primary op).operandBytes v ++ rest) ∨
    (i = .prefixCb ∧ bs = [0xCB#8] ∧ rest = []) := by
  match bs with
  | [] => cases h
  | op :: tail =>
    unfold decode at h
    cases he : primary op with
    | alone j =>
      simp only [he] at h
      cases h
      exact .inl ⟨op, 0#16, by simp [he, Entry.instr, Entry.operandBytes]⟩
    | imm8 k =>
      match tail with
      | [] => simp [he] at h
      | b :: tail =>
        simp only [he] at h
        cases h
        exact .inl ⟨op, join 0#8 b, by simp [he, Entry.instr, Entry.operandBytes]⟩
    | imm16 k =>
      match tail with
      | [] | [_] => simp [he] at h
      | l :: g :: tail =>
        simp only [he] at h
        cases h
        exact .inl ⟨op, join g l, by simp [he, Entry.instr, Entry.operandBytes]⟩
    | extended =>
      match tail with
      | [] =>
        simp only [he] at h
        cases h
        exact .inr ⟨rfl, by rw [eq_prefix_of_primary he], rfl⟩
      | op2 :: tail =>
        simp only [he] at h
        cases h
        exact .inl ⟨op, join 0#8 op2, by simp [he, Entry.instr, Entry.operandBytes]⟩

/-- An operand of two bytes is read low byte first (R81). -/
theorem decode_imm16 {op : Byte} {k : Word → Instr} (h : primary op = .imm16 k) (v : Word) (rest : List Byte) :
    decode (op :: lo v :: hi v :: rest) = .ok (k v, rest) := by
  have hd := decode_primary op v rest
  rwa [h] at hd

end Sys2Proof
end

section
/-! SUPPORT. A fetch reads exactly the bytes that decode to the instruction it answers (spec/30_encoding.md R70, R71),
and how a fetch, and a step, can end in a fault (R84, R233). -/

namespace Sys2Proof.Machine

/-- No read looks at PC. -/
theorem ReadsBytes.withPc {s u : State} {x : Word} {bs : List Byte} (p : Word) (h : ReadsBytes s x bs u) :
    ReadsBytes { s with pc := p } x bs { u with pc := p } := by
  induction bs generalizing s x with
  | nil => cases h; rfl
  | cons b bs ih => exact ⟨h.1, ih h.2⟩

/-- Where the operand of an entry can be read, it is fetched, and PC is past its bytes. -/
theorem fetchOperand_ok {e : Entry} {v : Word} {s u : State} (h : ReadsBytes s s.pc (e.operandBytes v) u) :
    fetchOperand e s = .next (e.instr v, { u with pc := s.pc + BitVec.ofNat 16 (e.operandBytes v).length }) := by
  cases e with
  | alone i =>
    cases h
    simp [fetchOperand, Entry.instr, Entry.operandBytes]
  | imm8 k | extended =>
    obtain ⟨hl, rfl⟩ := h
    rw [fetchOperand, fetch8_ok hl]
    rfl
  | imm16 k =>
    obtain ⟨hl, hg, rfl⟩ := h
    rw [fetchOperand, fetch16_ok hl hg, join_hi_lo]
    rfl

/-- An operand that is fetched has been read. -/
theorem fetchOperand_eq_next {e : Entry} {i : Instr} {s t : State} (h : fetchOperand e s = .next (i, t)) :
    ∃ v u, ReadsBytes s s.pc (e.operandBytes v) u := by
  cases e with
  | alone i => exact ⟨0#16, s, rfl⟩
  | imm8 k | extended =>
    obtain ⟨b, u, hb, -⟩ := andThen_eq_next h
    exact ⟨join 0#8 b, _, (fetch8_eq_next hb).1.trans (by rw [lo_join]), rfl⟩
  | imm16 k =>
    obtain ⟨v, u, hv, -⟩ := andThen_eq_next h
    obtain ⟨l, g, hl, hg, -, -⟩ := fetch16_eq_next hv
    exact ⟨join g l, _, hl.trans (by rw [lo_join]), hg.trans (by rw [hi_join]), rfl⟩

/-- Where an opcode and the operand its entry asks for can be read, the fetch answers their instruction, and PC is past
their bytes. -/
theorem fetchInstr_primary {s u : State} {op : Byte} {v : Word}
    (h : ReadsBytes s s.pc (op :: (primary op).operandBytes v) u) :
    fetchInstr s = .next ((primary op).instr v,
      { u with pc := s.pc + BitVec.ofNat 16 (op :: (primary op).operandBytes v).length }) := by
  obtain ⟨hop, hv⟩ := h
  have hlen : s.pc + 1#16 + BitVec.ofNat 16 ((primary op).operandBytes v).length =
      s.pc + BitVec.ofNat 16 (op :: (primary op).operandBytes v).length := by
    rw [BitVec.add_assoc, List.length_cons, Nat.add_comm, BitVec.ofNat_add]
  rw [fetchInstr_ok hop, fetchOperand_ok (s := s.afterOpcode) (hv.withPc (s.pc + 1#16))]
  exact congrArg (fun p => Host.Outcome.next ((primary op).instr v, { u with pc := p })) hlen

/-- Bytes at PC that decode to a well-formed instruction are fetched as that instruction, and PC is past them. -/
theorem fetchInstr_of_decode {s u : State} {bs : List Byte} {i : Instr} (h : ReadsBytes s s.pc bs u)
    (hd : decode bs = .ok (i, [])) (hi : i.wf = true) :
    fetchInstr s = .next (i, { u with pc := s.pc + BitVec.ofNat 16 bs.length }) := by
  obtain ⟨op, v, rfl, rfl⟩ | ⟨rfl, -, -⟩ := decode_eq_ok hd
  · rw [List.append_nil] at h ⊢
    exact fetchInstr_primary h
  · cases hi

/-- An instruction that is fetched is the one its bytes at PC decode to, and PC is past them. -/
theorem fetchInstr_reads {s t : State} {i : Instr} (h : fetchInstr s = .next (i, t)) :
    ∃ bs u, ReadsBytes s s.pc bs u ∧ decode bs = .ok (i, []) ∧
      t = { u with pc := s.pc + BitVec.ofNat 16 bs.length } := by
  have key : ∃ op v u, ReadsBytes s s.pc (op :: (primary op).operandBytes v) u := by
    match hop : s.load s.pc with
    | .error info => rw [fetchInstr_fails hop] at h; cases h
    | .ok op =>
      rw [fetchInstr_ok hop] at h
      obtain ⟨v, u, hu⟩ := fetchOperand_eq_next h
      exact ⟨op, v, _, hop, hu.withPc s.pc⟩
  obtain ⟨op, v, u, hu⟩ := key
  rw [fetchInstr_primary hu] at h
  cases h
  exact ⟨_, u, hu, by simpa using decode_primary op v [], rfl⟩

theorem andThen_eq_fault {α β : Type} {r : Res α} {k : α → State → Host.Outcome β Fault Refusal} {x : Fault}
    (h : andThen r k = .fault x) : r = .fault x ∨ ∃ v s, r = .next (v, s) ∧ k v s = .fault x := by
  match r with
  | .next (v, s) => exact .inr ⟨v, s, rfl, h⟩
  | .fault _ => exact .inl (congrArg _ (Host.Outcome.fault.inj h))
  | .refused _ => cases h

theorem fetchOperand_completesOrFails (e : Entry) (s : State) : CompletesOrFails s (fetchOperand e s) := by
  cases e with
  | alone i => exact completesOrFails_next _ _
  | imm8 k | extended =>
    exact completesOrFails_andThen (fetch8_completesOrFails s) fun _ _ _ => completesOrFails_next _ _
  | imm16 k =>
    refine completesOrFails_andThen ?_ fun _ _ _ => completesOrFails_next _ _
    refine completesOrFails_andThen (fetch8_completesOrFails s) fun l t ht => ?_
    obtain ⟨-, rfl⟩ := fetch8_eq_next ht
    exact completesOrFails_andThen (.after ⟨_, _, _, _, rfl, id⟩ (fetch8_completesOrFails _))
      fun _ _ _ => completesOrFails_next _ _

/-- The only fault of a fetch is a failing access to memory. -/
theorem fetchInstr_completesOrFails (s : State) : CompletesOrFails s (fetchInstr s) := by
  match hop : s.load s.pc with
  | .error info => rw [fetchInstr_fails hop]; exact ⟨info, _, accessed_afterLoad s s.pc, rfl⟩
  | .ok op =>
    rw [fetchInstr_ok hop]
    exact .after ⟨_, _, _, _, rfl, id⟩ (fetchOperand_completesOrFails (primary op) s.afterOpcode)

/-- A step that ends in `UnresolvedOpcode` has fetched that row and run it. -/
theorem step_eq_unresolvedOpcode {s left : State} {op : Byte} {a0 : Word}
    (h : step s = .fault (.unresolvedOpcode op a0 left)) :
    ∃ i t, fetchInstr s = .next (i, t) ∧ (op, i) ∈ Instr.unresolved ∧ a0 = t.pc - 1#16 ∧
      left = { t with faulted := true } := by
  unfold step stepWith at h
  split at h
  · cases h
  obtain hfetch | ⟨i, t, hfetch, hexec⟩ := andThen_eq_fault h
  · have hc := fetchInstr_completesOrFails s
    rw [hfetch] at hc
    obtain ⟨_, _, _, hx⟩ := hc
    cases hx
  · obtain ⟨_, hm, hx⟩ | ⟨_, _, _, hx⟩ := exec_eq_fault hexec
    · cases hx
      exact ⟨i, t, hfetch, hm, rfl, rfl⟩
    · cases hx

end Sys2Proof.Machine
end

section
/-! The obligations of spec/30_encoding.md. -/

namespace Sys2Proof.Machine

/-- Settles O11 by evaluating the decoder on the bytes of each row; the two bytes of a word join back to it. -/
theorem decodeOfEncodeIsTheInstruction : Obligations.DecodeOfEncodeIsTheInstruction := by
  intro i rest hi
  cases i
  case prefixCb => cases hi
  case ldBcD16 v | ldDeD16 v | ldHlD16 v | ldSpD16 v | ldIndA16Sp v | ldIndA16A v | ldAIndA16 v | jpA16 v | jpNzA16 v
      | jpZA16 v | jpNcA16 v | jpCA16 v | callA16 v | callNzA16 v | callZA16 v | callNcA16 v | callCA16 v =>
    exact decode_imm16 rfl v rest
  all_goals rfl

/-- Settles O12: what the decoder read is an opcode with its operand, or the prefix byte alone. -/
theorem encodeOfDecodeIsTheBytes : Obligations.EncodeOfDecodeIsTheBytes := by
  intro bs rest i h
  obtain ⟨op, v, rfl, rfl⟩ | ⟨rfl, rfl, rfl⟩ := decode_eq_ok h
  · rw [encode_primary_instr]
  · rfl

/-- Settles O17: the bytes fetched are the encoding of an unresolved row, which is its opcode alone. -/
theorem onlyTheElevenOpcodesAreUnresolved : Obligations.OnlyTheElevenOpcodesAreUnresolved := by
  intro s left op a0 h
  obtain ⟨i, t, hfetch, hm, rfl, rfl⟩ := step_eq_unresolvedOpcode h
  obtain ⟨bs, u, hu, hd, rfl⟩ := fetchInstr_reads hfetch
  have hbs : bs = [op] := by
    rw [← encodeOfDecodeIsTheBytes bs [] i hd, encode_unresolved hm, List.append_nil]
  subst hbs
  obtain ⟨hop, rfl⟩ := hu
  exact ⟨hop, BitVec.add_sub_cancel _ _, rfl, List.mem_map_of_mem (f := Prod.fst) hm⟩

/-- Settles O13: each word, evaluated by the decoder. -/
theorem wordsOfTheSpecDecode : Obligations.WordsOfTheSpecDecode :=
  ⟨rfl, rfl, rfl, rfl, rfl, rfl, rfl, rfl, rfl, rfl, rfl, rfl, rfl, rfl, rfl⟩

/-- Settles O14: the fetch answers the decoded instruction, and `step` runs it. -/
theorem stepRunsDecodedInstruction : Obligations.StepRunsDecodedInstruction := by
  intro s u bs i hf hu hd hi
  rw [step_of_not_faulted hf, fetchInstr_of_decode hu hd hi, andThen_next]

end Sys2Proof.Machine
end

section
/-! SUPPORT. The 8-bit loads (spec/40_load8.md): their encodings by operand code (spec/30_encoding.md R72, R74, R81),
how the terms of Safety.lean follow past a read, a write or a move of HL, and what an instruction does whose meaning is
one of the four shared operations of Machine/Load8.lean. -/

namespace Sys2Proof.Machine

theorem encode_ldRegReg (dst src : Reg8) :
    encode (.ldRegReg dst src) = [opcode (0x40 + 8 * regCode dst + regCode src)] := by
  cases dst <;> cases src <;> rfl

theorem encode_ldRegImm (dst : Reg8) (v : Byte) :
    encode (.ldRegImm dst v) = [opcode (0x06 + 8 * regCode dst), v] := by
  cases dst <;> rfl

theorem encode_ldRegIndHl (dst : Reg8) : encode (.ldRegIndHl dst) = [opcode (0x46 + 8 * regCode dst)] := by
  cases dst <;> rfl

theorem encode_ldIndHlReg (src : Reg8) : encode (.ldIndHlReg src) = [opcode (0x70 + regCode src)] := by
  cases src <;> rfl

/-- The page of `LDH` ends at 0xFFFF, so its addresses do not wrap (R81). -/
theorem highPage_toNat (n : Byte) : (highPage n).toNat = 0xFF00 + n.toNat := by
  have := n.isLt
  simp only [highPage, zext16, BitVec.toNat_add, BitVec.toNat_setWidth, BitVec.toNat_ofNat]
  omega

@[simp] theorem State.hl_setHl (s : State) (v : Word) : (s.setHl v).hl = v := join_hi_lo v

theorem State.setHl_reg_other (s : State) (v : Word) {r : Reg8} (hh : r ≠ .h) (hl : r ≠ .l) :
    (s.setHl v).reg r = s.reg r := by
  cases r with
  | h => exact absurd rfl hh
  | l => exact absurd rfl hl
  | b | c | d | e | a => rfl

/-- A write to HL changes H and L alone. -/
theorem SameRegsBut.setHl {rs : List Reg8} {s t : State} (v : Word) (h : SameRegsBut rs s t) (hh : Reg8.h ∈ rs)
    (hl : Reg8.l ∈ rs) : SameRegsBut rs s (t.setHl v) :=
  fun r hr => (State.setHl_reg_other t v (ne_of_mem_of_not_mem hh hr).symm
    (ne_of_mem_of_not_mem hl hr).symm).trans (h r hr)

/-- A read of memory changes no register. -/
theorem SameRegsBut.of_afterLoad {rs : List Reg8} {s t : State} {x : Word} (h : SameRegsBut rs (s.afterLoad x) t) :
    SameRegsBut rs s t :=
  fun r hr => (h r hr).trans (State.afterLoad_reg s x r)

theorem SameRegsBut.afterStore (rs : List Reg8) (s : State) (x : Word) (v : Byte) :
    SameRegsBut rs s (s.afterStore x v) :=
  fun r _ => State.afterStore_reg s x v r

theorem SameRegsBut.mono {rs rs' : List Reg8} {s t : State} (h : SameRegsBut rs s t) (hs : rs ⊆ rs') :
    SameRegsBut rs' s t :=
  fun r hr => h r fun hm => hr (hs hm)

theorem Keeps.setHl {ps : List Part} {s t : State} (v : Word) (h : Keeps ps s t) : Keeps ps s (t.setHl v) := h

theorem Keeps.tick {ps : List Part} {s t : State} (n : Nat) (h : Keeps ps s t) : Keeps ps s (tick n t) := h

theorem Keeps.afterStore (s : State) (x : Word) (v : Byte) : Keeps [.memory] s (s.afterStore x v) := by simp [Keeps]

theorem Stores.setHl {x y : Word} {v : Byte} {s t : State} (h : Stores x v s t) : Stores x v s (t.setHl y) := h

theorem loadFromHlThen_ok {s : State} {v : Byte} (next : Word) (h : s.load s.hl = .ok v) :
    loadFromHlThen next s = .next (tick 2 (((s.afterLoad s.hl).setReg .a v).setHl next)) := by
  unfold loadFromHlThen
  rw [memRead_ok h]
  rfl

theorem loadFromHlThen_fails {s : State} {info : MemInfo} (next : Word) (h : s.load s.hl = .error info) :
    loadFromHlThen next s = .fault (.memoryAccessFailure info { s.afterLoad s.hl with faulted := true }) := by
  unfold loadFromHlThen
  rw [memRead_error h]
  rfl

theorem storeToHlThen_ok {s : State} (next : Word) (h : s.canWrite s.hl s.a) :
    storeToHlThen next s = .next (tick 2 ((s.afterStore s.hl s.a).setHl next)) := by
  unfold storeToHlThen
  rw [memWrite_ok h]
  rfl

theorem storeToHlThen_fails {s : State} {info : MemInfo} (next : Word) (h : s.storeFailure s.hl s.a = some info) :
    storeToHlThen next s = .fault (.memoryAccessFailure info { s.afterStore s.hl s.a with faulted := true }) := by
  unfold storeToHlThen
  rw [memWrite_fails h]
  rfl

section
variable {i : Instr} {s : State}

/-- An instruction that is a load from `x` completes with the byte in its register, or ends in the failure of the
read. -/
theorem loads_of_exec_eq_loadFrom {dst : Reg8} {x : Word} {n : Nat} (hi : exec i s = loadFrom dst x n s) :
    (∀ v, s.load x = .ok v → ∃ t, exec i s = .next t ∧ t.reg dst = v ∧ SameRegsBut [dst] s t ∧
      Keeps [] (s.afterLoad x) t ∧ Costs n s t) ∧
    ∀ info, s.load x = .error info → FailsLeaving i s info (s.afterLoad x) :=
  ⟨fun v h => ⟨_, hi.trans (loadFrom_ok dst n h), by simp, .of_afterLoad (.setReg_tick _ dst v n),
    .setReg_tick _ dst v n, .of_tick n (by simp) (by simp)⟩, fun _ h => hi.trans (loadFrom_fails dst n h)⟩

/-- An instruction that is a store of `v` to `x` completes with exactly that byte stored to, or ends in the failure of
the write. -/
theorem stores_of_exec_eq_storeTo {x : Word} {v : Byte} {n : Nat} (hi : exec i s = storeTo x v n s) :
    (s.canWrite x v → ∃ t, exec i s = .next t ∧ Stores x v s t ∧ SameRegsBut [] s t ∧ Keeps [.memory] s t ∧
      Costs n s t) ∧
    ∀ info, s.storeFailure x v = some info → FailsLeaving i s info (s.afterStore x v) :=
  ⟨fun h => ⟨_, hi.trans (storeTo_ok n h), (stores_afterStore s x v).tick n, (SameRegsBut.afterStore [] s x v).tick n,
    (Keeps.afterStore s x v).tick n, .of_tick n rfl rfl⟩, fun _ h => hi.trans (storeTo_fails n h)⟩

/-- An instruction that loads A from HL and moves HL does both, or ends in the failure of the read with HL as it was. -/
theorem loads_of_exec_eq_loadFromHlThen {next : Word} (hi : exec i s = loadFromHlThen next s) :
    (∀ v, s.load s.hl = .ok v → ∃ t, exec i s = .next t ∧ t.a = v ∧ t.hl = next ∧ SameRegsBut [.a, .h, .l] s t ∧
      Keeps [] (s.afterLoad s.hl) t ∧ Costs 2 s t) ∧ OperandReadFails i s := by
  refine ⟨fun v h => ⟨_, hi.trans (loadFromHlThen_ok next h), rfl, by simp, ?_, ?_, .of_tick 2 rfl rfl⟩,
    fun _ h => hi.trans (loadFromHlThen_fails next h)⟩
  · have ha : SameRegsBut [.a, .h, .l] s ((s.afterLoad s.hl).setReg .a v) :=
      .of_afterLoad ((SameRegsBut.setReg _ .a v).mono (by simp))
    exact (ha.setHl next (by simp) (by simp)).tick 2
  · exact (Keeps.setReg_tick _ .a v 2).setHl next

/-- An instruction that stores A to HL and moves HL does both, or ends in the failure of the write with HL as it was. -/
theorem stores_of_exec_eq_storeToHlThen {next : Word} (hi : exec i s = storeToHlThen next s) :
    (s.canWrite s.hl s.a → ∃ t, exec i s = .next t ∧ Stores s.hl s.a s t ∧ t.hl = next ∧ SameRegsBut [.h, .l] s t ∧
      Keeps [.memory] s t ∧ Costs 2 s t) ∧
    ∀ info, s.storeFailure s.hl s.a = some info → FailsLeaving i s info (s.afterStore s.hl s.a) :=
  ⟨fun h => ⟨_, hi.trans (storeToHlThen_ok next h), (stores_afterStore s s.hl s.a).setHl.tick 2, by simp,
    ((SameRegsBut.afterStore _ s s.hl s.a).setHl next (by simp) (by simp)).tick 2,
    ((Keeps.afterStore s s.hl s.a).setHl next).tick 2, .of_tick 2 rfl rfl⟩,
    fun _ h => hi.trans (storeToHlThen_fails next h)⟩

end

end Sys2Proof.Machine
end

section
/-! The obligations of spec/40_load8.md. -/

namespace Sys2Proof.Machine

/-- Settles O27: every form is `ldRegReg`, one register write and a tick. -/
theorem loadRegisterFromRegister : Obligations.LoadRegisterFromRegister := fun dst src s =>
  ⟨encode_ldRegReg dst src, _, exec_ldRegReg dst src s, by simp, .setReg_tick s dst _ 1, .setReg_tick s dst _ 1,
    .of_tick 1 (by simp) (by simp)⟩

/-- Settles O28: every form is `ldRegImm`, one register write and a tick. -/
theorem loadRegisterImmediate : Obligations.LoadRegisterImmediate := fun dst v s =>
  ⟨encode_ldRegImm dst v, _, exec_ldRegImm dst v s, by simp, .setReg_tick s dst v 2, .setReg_tick s dst v 2,
    .of_tick 2 (by simp) (by simp)⟩

/-- Settles O29: every form is a load from HL. -/
theorem loadRegisterFromAddressHl : Obligations.LoadRegisterFromAddressHl := fun dst s =>
  ⟨encode_ldRegIndHl dst, loads_of_exec_eq_loadFrom (exec_ldRegIndHl dst s)⟩

/-- Settles O30: each form is a store to HL. -/
theorem storeToAddressHl : Obligations.StoreToAddressHl := by
  refine fun src n s => ⟨encode_ldIndHlReg src, rfl, fun i v cost h => ?_⟩
  have hi : exec i s = storeTo s.hl v cost s := by
    simp only [List.mem_cons, Prod.mk.injEq, List.not_mem_nil, or_false] at h
    obtain ⟨rfl, rfl, rfl⟩ | ⟨rfl, rfl, rfl⟩ := h
    · exact exec_ldIndHlReg src s
    · rfl
  exact stores_of_exec_eq_storeTo hi

/-- Settles O31: each form is a load of A from its address. -/
theorem loadAFromMemory : Obligations.LoadAFromMemory := by
  refine fun x n s => ⟨highPage_toNat n, rfl, rfl, rfl, rfl, rfl, fun i at_ cost h => ?_⟩
  have hi : exec i s = loadFrom .a at_ cost s := by
    simp only [List.mem_cons, Prod.mk.injEq, List.not_mem_nil, or_false] at h
    obtain ⟨rfl, rfl, rfl⟩ | ⟨rfl, rfl, rfl⟩ | ⟨rfl, rfl, rfl⟩ | ⟨rfl, rfl, rfl⟩ | ⟨rfl, rfl, rfl⟩ := h <;> rfl
  exact loads_of_exec_eq_loadFrom hi

/-- Settles O32: each form is a store of A to its address. -/
theorem storeAToMemory : Obligations.StoreAToMemory := by
  refine fun x n s => ⟨highPage_toNat n, rfl, rfl, rfl, rfl, rfl, fun i at_ cost h => ?_⟩
  have hi : exec i s = storeTo at_ s.a cost s := by
    simp only [List.mem_cons, Prod.mk.injEq, List.not_mem_nil, or_false] at h
    obtain ⟨rfl, rfl, rfl⟩ | ⟨rfl, rfl, rfl⟩ | ⟨rfl, rfl, rfl⟩ | ⟨rfl, rfl, rfl⟩ | ⟨rfl, rfl, rfl⟩ := h <;> rfl
  exact stores_of_exec_eq_storeTo hi

/-- Settles O33: each form loads A from HL and then moves HL. -/
theorem loadAStepHl : Obligations.LoadAStepHl := by
  refine fun s => ⟨rfl, rfl, fun i next h => ?_⟩
  have hi : exec i s = loadFromHlThen next s := by
    simp only [List.mem_cons, Prod.mk.injEq, List.not_mem_nil, or_false] at h
    obtain ⟨rfl, rfl⟩ | ⟨rfl, rfl⟩ := h <;> rfl
  exact loads_of_exec_eq_loadFromHlThen hi

/-- Settles O34: each form stores A to HL and then moves HL. -/
theorem storeAStepHl : Obligations.StoreAStepHl := by
  refine fun s => ⟨rfl, rfl, fun i next h => ?_⟩
  have hi : exec i s = storeToHlThen next s := by
    simp only [List.mem_cons, Prod.mk.injEq, List.not_mem_nil, or_false] at h
    obtain ⟨rfl, rfl⟩ | ⟨rfl, rfl⟩ := h <;> rfl
  exact stores_of_exec_eq_storeToHlThen hi

end Sys2Proof.Machine
end

section
/-! SUPPORT. The 16-bit loads and the stack (spec/41_load16_stack.md): their encodings by operand code
(spec/30_encoding.md R75, R76), how the terms of Safety.lean follow past a write of F, SP or a pair, how an instruction
that pushes or pops first of all can fail, and SP plus a displacement as arithmetic (D11). -/

namespace Sys2Proof.Machine

theorem encode_ldReg16Imm (rr : Reg16) (v : Word) :
    encode (.ldReg16Imm rr v) = [opcode (0x01 + 16 * reg16Code rr), lo v, hi v] := by
  cases rr <;> rfl

theorem encode_push (p : StackPair) : encode (.push p) = [opcode (0xC5 + 16 * stackPairCode p)] := by cases p <;> rfl

theorem encode_pop (p : StackPair) : encode (.pop p) = [opcode (0xC1 + 16 * stackPairCode p)] := by cases p <;> rfl

@[simp] theorem tick_reg16 (s : State) (n : Nat) (rr : Reg16) : (tick n s).reg16 rr = s.reg16 rr := by cases rr <;> rfl

@[simp] theorem setFlags_hl (s : State) (z n h c : Option Bool) : (s.setFlags z n h c).hl = s.hl := rfl

@[simp] theorem State.reg16_setReg16_same (s : State) (rr : Reg16) (v : Word) : (s.setReg16 rr v).reg16 rr = v := by
  cases rr with
  | sp => rfl
  | bc | de | hl => exact join_hi_lo v

theorem State.reg16_setReg16_other (s : State) {rr q : Reg16} (v : Word) (h : q ≠ rr) :
    (s.setReg16 rr v).reg16 q = s.reg16 q := by
  cases rr with
  | bc => cases q with
    | bc => exact absurd rfl h
    | de | hl | sp => rfl
  | de => cases q with
    | de => exact absurd rfl h
    | bc | hl | sp => rfl
  | hl => cases q with
    | hl => exact absurd rfl h
    | bc | de | sp => rfl
  | sp => cases q with
    | sp => exact absurd rfl h
    | bc | de | hl => rfl

/-! Frames past one write -/

theorem Keeps.refl (ps : List Part) (s : State) : Keeps ps s s := by simp [Keeps, SameMemory]

theorem SameRegsBut.refl (rs : List Reg8) (s : State) : SameRegsBut rs s s := fun _ _ => rfl

section
variable {ps : List Part} {rs : List Reg8} {s t : State}

theorem Keeps.setSp (v : Word) (h : Keeps ps s t) (hp : Part.sp ∈ ps) : Keeps ps s { t with sp := v } := by
  obtain ⟨hf, hpc, -, hrest⟩ := h
  exact ⟨hf, hpc, absurd hp, hrest⟩

theorem Keeps.setF (v : Byte) (h : Keeps ps s t) (hp : Part.flags ∈ ps) : Keeps ps s { t with f := v } := by
  obtain ⟨-, hrest⟩ := h
  exact ⟨absurd hp, hrest⟩

theorem Keeps.setFlags (z n h c : Option Bool) (ht : Keeps ps s t) (hp : Part.flags ∈ ps) :
    Keeps ps s (t.setFlags z n h c) :=
  ht.setF _ hp

theorem Keeps.setReg16 (rr : Reg16) (v : Word) (h : Keeps ps s t) (hp : Part.sp ∈ ps) :
    Keeps ps s (t.setReg16 rr v) := by
  cases rr with
  | sp => exact h.setSp v hp
  | bc | de | hl => exact h

theorem Keeps.setStackPair (p : StackPair) (v : Word) (h : Keeps ps s t) (hp : Part.flags ∈ ps) :
    Keeps ps s (t.setStackPair p v) := by
  cases p with
  | af => exact h.setF _ hp
  | bc | de | hl => exact h

theorem SameRegsBut.setSp (v : Word) (h : SameRegsBut rs s t) : SameRegsBut rs s { t with sp := v } := h

theorem SameRegsBut.setF (v : Byte) (h : SameRegsBut rs s t) : SameRegsBut rs s { t with f := v } := h

theorem SameRegsBut.setReg_of_mem {r : Reg8} (v : Byte) (h : SameRegsBut rs s t) (hr : r ∈ rs) :
    SameRegsBut rs s (t.setReg r v) :=
  fun q hq => (State.reg_setReg_other t r q v (ne_of_mem_of_not_mem hr hq).symm).trans (h q hq)

end

/-- The registers of table `r8` that a pair of table `r16stk` holds. -/
def stackPairRegs : StackPair → List Reg8
  | .bc => [.b, .c]
  | .de => [.d, .e]
  | .hl => [.h, .l]
  | .af => [.a]

/-- A write to a pair changes no register of table `r8` but its own. -/
theorem SameRegsBut.setStackPair {s t : State} (p : StackPair) (v : Word) (h : SameRegsBut (stackPairRegs p) s t) :
    SameRegsBut (stackPairRegs p) s (t.setStackPair p v) := by
  cases p with
  | bc => exact (h.setReg_of_mem (r := .b) (hi v) (by decide)).setReg_of_mem (r := .c) (lo v) (by decide)
  | de => exact (h.setReg_of_mem (r := .d) (hi v) (by decide)).setReg_of_mem (r := .e) (lo v) (by decide)
  | hl => exact h.setHl v (by decide) (by decide)
  | af => exact (h.setReg_of_mem (r := .a) (hi v) (by decide)).setF _

/-! LD (a16),SP -/

theorem ne_add_one (x : Word) : x ≠ x + 1#16 := by bv_omega

section
variable {s : State} {x : Word}

theorem storeSp_ok (h1 : s.canWrite x (lo s.sp)) (h2 : (s.afterStore x (lo s.sp)).canWrite (x + 1#16) (hi s.sp)) :
    storeSp x s = .next (tick 5 ((s.afterStore x (lo s.sp)).afterStore (x + 1#16) (hi s.sp))) := by
  rw [storeSp, memWrite_ok h1, thenDo_next, State.afterStore_sp, memWrite_ok h2, thenDo_next, finish]

theorem storeSp_fails_first {info : MemInfo} (h : s.storeFailure x (lo s.sp) = some info) :
    storeSp x s = .fault (.memoryAccessFailure info { s.afterStore x (lo s.sp) with faulted := true }) := by
  rw [storeSp, memWrite_fails h, thenDo_fault]

/-- A second write that fails leaves the low byte stored (R132, R233). -/
theorem storeSp_fails_second {info : MemInfo} (h1 : s.canWrite x (lo s.sp))
    (h2 : (s.afterStore x (lo s.sp)).storeFailure (x + 1#16) (hi s.sp) = some info) :
    storeSp x s = .fault (.memoryAccessFailure info
      { (s.afterStore x (lo s.sp)).afterStore (x + 1#16) (hi s.sp) with faulted := true }) := by
  rw [storeSp, memWrite_ok h1, thenDo_next, State.afterStore_sp, memWrite_fails h2, thenDo_fault]

end

/-! PUSH and POP -/

theorem pushPair_ok {s : State} {p : StackPair} (h : s.canPush (s.stackPair p)) :
    pushPair p s = .next (tick 4 (pushedState s (s.stackPair p))) := by
  rw [pushPair, push16_ok h, thenDo_next, finish]

theorem popPair_ok {s : State} {l g : Byte} (p : StackPair) (h : s.popReads l g) :
    popPair p s = .next (tick 3 (State.setStackPair { s.afterPop with sp := s.sp + 2#16 } p (join g l))) := by
  rw [popPair, pop16_ok h, andThen_next, finish]

theorem SameRegsBut.pushedState (rs : List Reg8) (s : State) (v : Word) : SameRegsBut rs s (pushedState s v) :=
  fun r _ => pushedState_reg s v r

theorem Keeps.pushedState (s : State) (v : Word) : Keeps [.memory, .sp] s (pushedState s v) := by simp [Keeps]

theorem SameRegsBut.afterPop (rs : List Reg8) (s : State) : SameRegsBut rs s s.afterPop :=
  .of_afterLoad (.of_afterLoad (.refl rs _))

/-- An instruction that pushes `v` before anything else fails as the push does, whatever it does afterwards. -/
theorem pushFails_of_exec_eq {i : Instr} {s : State} {v : Word} {k : State → Out}
    (hi : exec i s = thenDo (push16 s v) k) : PushFails i v s := by
  refine ⟨fun info h => ?_, fun info h1 h2 => ⟨stores_afterStore s _ _, ?_⟩⟩
  · exact hi.trans (congrArg (thenDo · k) (push16_fails_first h))
  · exact hi.trans (congrArg (thenDo · k) (push16_fails_second h1 h2))

/-- An instruction that pops before anything else fails as the pop does, whatever it does afterwards. -/
theorem popFails_of_exec_eq {i : Instr} {s : State} {k : Word → State → Out} (hi : exec i s = andThen (pop16 s) k) :
    PopFails i s := by
  refine ⟨fun info h => ?_, fun l info h1 h2 => ?_⟩
  · exact hi.trans (congrArg (andThen · k) (pop16_fails_first h))
  · exact hi.trans (congrArg (andThen · k) (pop16_fails_second h1 h2))

/-! SP plus a displacement -/

/-- The extension of R6 by its two cases is the signed value modulo 2^16. -/
theorem sext16_eq_ofInt (e : Byte) : sext16 e = BitVec.ofInt 16 e.toInt := by
  have := e.isLt
  apply BitVec.eq_of_toNat_eq
  rw [BitVec.toNat_ofInt, BitVec.toInt_eq_toNat_cond, sext16, zext16]
  split
  · rw [if_pos (by omega), BitVec.toNat_setWidth]
    omega
  · rw [if_neg (by omega), BitVec.toNat_add, BitVec.toNat_setWidth, BitVec.toNat_ofNat]
    omega

theorem add_sext16 (x : Word) (e : Byte) : x + sext16 e = BitVec.ofInt 16 ((x.toNat : Int) + e.toInt) := by
  rw [sext16_eq_ofInt, BitVec.ofInt_add, BitVec.ofInt_natCast, BitVec.ofNat_toNat, BitVec.setWidth_eq]

/-- The displaced value and the flags 00HC, H and C from the addition of the low byte (R137, R174, D11). -/
theorem addDisplacement_eq (x : Word) (e : Byte) : addDisplacement x e =
    { value := BitVec.ofInt 16 ((x.toNat : Int) + e.toInt), z := some false, n := some false,
      h := some (decide (15 < x.toNat % 16 + e.toNat % 16)), c := some (decide (255 < x.toNat % 256 + e.toNat)) } := by
  have h16 : (x &&& 0x000F#16).toNat = x.toNat % 16 := Nat.and_two_pow_sub_one_eq_mod x.toNat 4
  have h256 : (x &&& 0x00FF#16).toNat = x.toNat % 256 := Nat.and_two_pow_sub_one_eq_mod x.toNat 8
  rw [addDisplacement, add_sext16, h16, h256, lowNibble_toNat]

theorem loadHlSpDisplaced_eq (e : Byte) (s : State) : loadHlSpDisplaced e s =
    .next (tick 3 ((s.setHl (BitVec.ofInt 16 ((s.sp.toNat : Int) + e.toInt))).setFlags (some false) (some false)
      (some (decide (15 < s.sp.toNat % 16 + e.toNat % 16))) (some (decide (255 < s.sp.toNat % 256 + e.toNat))))) := by
  rw [loadHlSpDisplaced, addDisplacement_eq]
  rfl

theorem addToSp_eq (e : Byte) (s : State) : addToSp e s =
    .next (tick 4 (State.setFlags { s with sp := BitVec.ofInt 16 ((s.sp.toNat : Int) + e.toInt) } (some false)
      (some false) (some (decide (15 < s.sp.toNat % 16 + e.toNat % 16)))
      (some (decide (255 < s.sp.toNat % 256 + e.toNat))))) := by
  rw [addToSp, addDisplacement_eq]
  rfl

end Sys2Proof.Machine
end

section
/-! The obligations of spec/41_load16_stack.md, in a namespace of their own: two of them share their name with the
operation they speak of. -/

namespace Sys2Proof.Machine.Load16

/-- Settles O35: one write to a 16-bit register and a tick. -/
theorem loadSixteenBitRegister : Obligations.LoadSixteenBitRegister := by
  refine fun rr v s => ⟨encode_ldReg16Imm rr v, rfl, ⟨_, exec_ldReg16Imm rr v s, ?_, fun q hq => ?_, ?_,
    ((Keeps.refl _ s).setReg16 rr v (by decide)).tick 3, .of_tick 3 (by simp) (by simp)⟩,
    _, rfl, rfl, ((SameRegsBut.refl _ s).setSp s.hl).tick 2, ((Keeps.refl _ s).setSp s.hl (by decide)).tick 2,
    .of_tick 2 rfl rfl⟩
  · simp
  · simp [State.reg16_setReg16_other s v hq]
  · simp

/-- Settles O36: two writes, at addresses that differ even where the second wraps to 0x0000. -/
theorem storeStackPointer : Obligations.StoreStackPointer := fun x s =>
  ⟨rfl, fun h1 h2 => ⟨_, storeSp_ok h1 h2, storesTwo_afterStore s _ _ (ne_add_one x),
    fun r _ => by simp, by simp [Keeps], .of_tick 5 rfl rfl⟩,
    fun _ => storeSp_fails_first, fun _ h1 h2 => ⟨stores_afterStore s x _, storeSp_fails_second h1 h2⟩⟩

/-- Settles O37: the push of the pair and a tick. -/
theorem pushPair : Obligations.PushPair := fun p s =>
  ⟨encode_push p, rfl, rfl, rfl, rfl, fun h => ⟨_, (exec_push p s).trans (pushPair_ok h),
    (pushed_pushedState s _).tick 4, (SameRegsBut.pushedState _ s _).tick 4, (Keeps.pushedState s _).tick 4,
    .of_tick 4 rfl rfl⟩, pushFails_of_exec_eq (exec_push p s)⟩

/-- Settles O38: the pop, a write to the pair and a tick; the word popped is the join of the two bytes read. -/
theorem popPair : Obligations.PopPair := by
  refine fun p s => ⟨encode_pop p, fun l g h => ⟨_, (exec_pop p s).trans (popPair_ok p h), ?_, ?_,
    .of_tick 3 (by simp) (by simp), ?_⟩, popFails_of_exec_eq (exec_pop p s)⟩
  · simp
  · exact (((Keeps.refl _ s.afterPop).setSp _ (by decide)).setStackPair p _ (by decide)).tick 3
  · have hregs := (((SameRegsBut.afterPop _ s).setSp (s.sp + 2#16)).setStackPair p (join g l)).tick 3
    refine ⟨?_, ?_, ?_, ?_⟩ <;> rintro rfl
    · exact ⟨hi_join g l, lo_join g l, hregs, rfl⟩
    · exact ⟨hi_join g l, lo_join g l, hregs, rfl⟩
    · exact ⟨hi_join g l, lo_join g l, hregs, rfl⟩
    · exact ⟨hi_join g l, congrArg (· &&& 0xF0#8) (lo_join g l), hregs⟩

/-- Settles O39: both forms write the displaced SP and the flags of its low byte. -/
theorem addDisplacementToSp : Obligations.AddDisplacementToSp := by
  refine fun e s => ⟨rfl, rfl, _, _, loadHlSpDisplaced_eq e s, addToSp_eq e s,
    by simp, (((SameRegsBut.refl [.h, .l] s).setHl _ (by decide) (by decide)).setFlags _ _ _ _).tick 3,
    (((Keeps.refl _ s).setHl _).setFlags _ _ _ _ (by decide)).tick 3, .of_tick 3 rfl rfl,
    rfl, (((SameRegsBut.refl _ s).setSp _).setFlags _ _ _ _).tick 4,
    (((Keeps.refl _ s).setSp _ (by decide)).setFlags _ _ _ _ (by decide)).tick 4, .of_tick 4 rfl rfl, ?_⟩
  exact List.forall_mem_cons.2 ⟨.of_setFlags rfl rfl rfl rfl 3,
    List.forall_mem_singleton.2 (.of_setFlags rfl rfl rfl rfl 4)⟩

end Sys2Proof.Machine.Load16
end

section
/-! SUPPORT. The 8-bit arithmetic and logic instructions (spec/42_alu8.md): their encodings by operand code
(spec/30_encoding.md R74, R79), the results of Machine/Flags.lean as arithmetic on numbers, how the terms of Safety.lean
follow past a write of an operand or of A, and what an instruction does that is one of the three ALU forms or that
writes its operand back. -/

namespace Sys2Proof.Machine

/-! Encodings -/

theorem encode_alu (op : AluOp) (x : Operand8) :
    encode (.alu op x) = [opcode (0x80 + 8 * aluCode op + operandCode x)] := by
  cases x with
  | reg r => cases op <;> cases r <;> rfl
  | indHl => cases op <;> rfl

theorem encode_aluImm (op : AluOp) (v : Byte) : encode (.aluImm op v) = [opcode (0xC6 + 8 * aluCode op), v] := by
  cases op <;> rfl

theorem encode_inc8 (x : Operand8) : encode (.inc8 x) = [opcode (0x04 + 8 * operandCode x)] := by
  cases x with
  | reg r => cases r <;> rfl
  | indHl => rfl

theorem encode_dec8 (x : Operand8) : encode (.dec8 x) = [opcode (0x05 + 8 * operandCode x)] := by
  cases x with
  | reg r => cases r <;> rfl
  | indHl => rfl

theorem alu_ne_prefixCb (op : AluOp) (x : Operand8) : Instr.alu op x ≠ .prefixCb := by
  cases x with
  | reg r => cases op <;> cases r <;> nofun
  | indHl => cases op <;> nofun

theorem aluImm_ne_prefixCb (op : AluOp) (v : Byte) : Instr.aluImm op v ≠ .prefixCb := by cases op <;> nofun

/-- An instruction is what the decoder reads from its encoding with nothing after it. -/
theorem decode_of_encode_eq {i : Instr} {bs : List Byte} (hi : i ≠ .prefixCb) (he : encode i = bs) :
    decode bs = .ok (i, []) := by
  subst he
  simpa using decodeOfEncodeIsTheInstruction i [] (decide_eq_true hi)

/-! Results as arithmetic -/

theorem byte_eq_zero_iff (v : Byte) : v = 0#8 ↔ v.toNat = 0 := by simp [← BitVec.toNat_inj]

/-- The sum modulo 256 with Z0HC (R142, R143). -/
theorem add8_eq (x v : Byte) (k : Nat) : add8 x v k =
    { value := BitVec.ofNat 8 (x.toNat + v.toNat + k), z := some (decide ((x.toNat + v.toNat + k) % 256 = 0)),
      n := some false, h := some (decide (15 < x.toNat % 16 + v.toNat % 16 + k)),
      c := some (decide (255 < x.toNat + v.toNat + k)) } := by
  simp [add8, byte_eq_zero_iff, lowNibble_toNat]

/-- The difference modulo 256 as a natural number; the borrow `k` is at most one. -/
theorem ofInt_sub_toNat (x v : Byte) {k : Nat} (hk : k ≤ 1) :
    (BitVec.ofInt 8 ((x.toNat : Int) - v.toNat - k)).toNat = (x.toNat + 512 - (v.toNat + k)) % 256 := by
  have := v.isLt
  rw [BitVec.toNat_ofInt]
  omega

/-- The difference modulo 256 with Z1HC (R144, R145). -/
theorem sub8_eq (x v : Byte) {k : Nat} (hk : k ≤ 1) : sub8 x v k =
    { value := BitVec.ofNat 8 (x.toNat + 512 - (v.toNat + k)),
      z := some (decide ((x.toNat + 512 - (v.toNat + k)) % 256 = 0)), n := some true,
      h := some (decide (x.toNat % 16 < v.toNat % 16 + k)), c := some (decide (x.toNat < v.toNat + k)) } := by
  have hvalue : BitVec.ofInt 8 ((x.toNat : Int) - v.toNat - k) = BitVec.ofNat 8 (x.toNat + 512 - (v.toNat + k)) :=
    BitVec.eq_of_toNat_eq ((ofInt_sub_toNat x v hk).trans (BitVec.toNat_ofNat _ 8).symm)
  simp [sub8, hvalue, byte_eq_zero_iff, lowNibble_toNat]

/-- A comparison keeps A; a difference of zero is equality (R149). -/
theorem alu8_cp_eq (x v : Byte) (k : Bool) : alu8 .cp x v k =
    { value := x, z := some (decide (x = v)), n := some true, h := some (decide (x.toNat % 16 < v.toNat % 16)),
      c := some (decide (x.toNat < v.toNat)) } := by
  have hz : (x.toNat + 512 - v.toNat) % 256 = 0 ↔ x = v := by
    have := x.isLt
    have := v.isLt
    rw [← BitVec.toNat_inj]
    omega
  simp [alu8, sub8_eq x v (Nat.zero_le 1), hz]

/-- One more modulo 256 with Z0H- (R150). -/
theorem incr8_eq (o : Byte) : incr8 o =
    { value := o + 1#8, z := some (decide (o.toNat = 255)), n := some false, h := some (decide (o.toNat % 16 = 15)),
      c := none } := by
  have hz : o + 1#8 = 0#8 ↔ o.toNat = 255 := by bv_omega
  simp [incr8, hz, lowNibble_toNat]

/-- One less modulo 256 with Z1H- (R152). -/
theorem decr8_eq (o : Byte) : decr8 o =
    { value := o - 1#8, z := some (decide (o.toNat = 1)), n := some true, h := some (decide (o.toNat % 16 = 0)),
      c := none } := by
  have hz : o - 1#8 = 0#8 ↔ o.toNat = 1 := by bv_omega
  simp [decr8, hz, lowNibble_toNat]

/-- The two corrections of `DAA` have no bit in common, so their union is their sum (R154). -/
theorem correction_toNat (p q : Bool) :
    ((if p then 0x06#8 else 0#8) ||| (if q then 0x60#8 else 0#8)).toNat =
      (if p then 6 else 0) + (if q then 0x60 else 0) := by
  cases p <;> cases q <;> rfl

/-- The addition arm of `DAA`: both tests on the old value (R154). -/
theorem decimalAdjust_of_not_n {n : Bool} (hn : n = false) (x : Byte) (h k : Bool) :
    (decimalAdjust x n h k).value.toNat = (x.toNat + (if h = true ∨ 9 < x.toNat % 16 then 6 else 0) +
      (if k || decide (0x99 < x.toNat) then 0x60 else 0)) % 256 ∧
    (decimalAdjust x n h k).c = some (k || decide (0x99 < x.toNat)) := by
  subst hn
  refine ⟨?_, by simp [decimalAdjust]⟩
  have hsum := correction_toNat (h || decide (9 < x.toNat % 16)) (k || decide (0x99 < x.toNat))
  simp only [Bool.or_eq_true, decide_eq_true_eq] at hsum
  simp [decimalAdjust, lowNibble_toNat, BitVec.toNat_add, hsum, Nat.add_assoc]

/-- The subtraction arm of `DAA`: the flags alone decide (R154). -/
theorem decimalAdjust_of_n {n : Bool} (hn : n = true) (x : Byte) (h k : Bool) :
    (decimalAdjust x n h k).value.toNat =
      (x.toNat + 256 - (if h then 6 else 0) - (if k then 0x60 else 0)) % 256 ∧
    (decimalAdjust x n h k).c = some k := by
  subst hn
  refine ⟨?_, by simp [decimalAdjust]⟩
  have hsub : (decimalAdjust x true h k).value.toNat =
      (256 - ((if h then 6 else 0) + (if k then 0x60 else 0)) + x.toNat) % 256 := by
    simp [decimalAdjust, BitVec.toNat_sub, correction_toNat, -BitVec.toNat_or]
  have hsix : (if h then 6 else 0) ≤ 6 := by split <;> decide
  have hhigh : (if k then 0x60 else 0) ≤ 0x60 := by split <;> decide
  omega

theorem complement_toNat (x : Byte) : (x ^^^ 0xFF#8).toNat = 255 - x.toNat := by
  rw [show x ^^^ 0xFF#8 = ~~~x from BitVec.xor_allOnes, BitVec.toNat_not]

/-! Frames past one write -/

section
variable {ps : List Part} {rs : List Reg8} {s t : State}

theorem Keeps.setReg (r : Reg8) (v : Byte) (h : Keeps ps s t) : Keeps ps s (t.setReg r v) := by cases r <;> exact h

/-- A register that holds what it held is unchanged. -/
theorem SameRegsBut.of_same {r : Reg8} (h : SameRegsBut (r :: rs) s t) (hr : t.reg r = s.reg r) :
    SameRegsBut rs s t := by
  intro q hq
  by_cases hqr : q = r
  · rw [hqr, hr]
  · exact h q (by simp [hqr, hq])

end

/-- A write of A and of F, and a tick, change nothing else. -/
theorem frame_setA_setFlags (s : State) (v : Byte) (z n h c : Option Bool) (k : Nat) :
    SameRegsBut [.a] s (tick k (State.setFlags { s with a := v } z n h c)) ∧
    Keeps [.flags] s (tick k (State.setFlags { s with a := v } z n h c)) ∧
    Costs k s (tick k (State.setFlags { s with a := v } z n h c)) :=
  ⟨((SameRegsBut.setReg s .a v).setFlags z n h c).tick k,
    (((Keeps.refl [.flags] s).setReg .a v).setFlags z n h c (by decide)).tick k, .of_tick k rfl rfl⟩

/-- A write of F and a tick change nothing else. -/
theorem frame_setFlags (s : State) (z n h c : Option Bool) (k : Nat) :
    SameRegsBut [] s (tick k (s.setFlags z n h c)) ∧ Keeps [.flags] s (tick k (s.setFlags z n h c)) ∧
    Costs k s (tick k (s.setFlags z n h c)) :=
  ⟨((SameRegsBut.refl [] s).setFlags z n h c).tick k, ((Keeps.refl _ s).setFlags z n h c (by decide)).tick k,
    .of_tick k rfl rfl⟩

/-! The three ALU forms -/

theorem aluOperand_ok {op : AluOp} {x : Operand8} {s : State} {v : Byte} (h : OperandHolds x v s) :
    aluOperand op x s = .next (tick (operandCost x 1 2) (applyAlu op v (s.afterOperand x))) := by
  rw [aluOperand, readR8_of_holds h, andThen_next, finish]

/-- An instruction that reads the byte at HL before anything else fails as the read does, whatever it does
afterwards. -/
theorem operandReadFails_of_exec_eq {i : Instr} {s : State} {k : Byte → State → Out}
    (hi : exec i s = andThen (readR8 s .indHl) k) : OperandReadFails i s :=
  fun _ h => hi.trans (congrArg (andThen · k) (memRead_error h))

section
variable {op : AluOp} {i : Instr} {v : Byte} {m : Nat} {s u : State}

/-- Reading the source operand changes at most what the Memory Unit remembers. -/
theorem AluForm.afterRead_eq (h : AluForm op i v m s u) : ∃ w, u = { s with unit := w } := by
  obtain ⟨r, -, -, -, rfl⟩ | ⟨-, -, -, rfl⟩ | ⟨-, -, rfl⟩ := h
  · exact ⟨_, rfl⟩
  · exact ⟨_, rfl⟩
  · exact ⟨_, rfl⟩

/-- Every form applies its operation to A and the operand, and costs what the form costs. -/
theorem AluForm.exec_eq (h : AluForm op i v m s u) : exec i s = .next (tick m (applyAlu op v u)) := by
  obtain ⟨r, rfl, rfl, rfl, rfl⟩ | ⟨rfl, hv, rfl, rfl⟩ | ⟨rfl, rfl, rfl⟩ := h
  · exact (exec_alu op (.reg r) u).trans (aluOperand_ok rfl)
  · exact (exec_alu op .indHl s).trans (aluOperand_ok hv)
  · exact exec_aluImm op v u

/-- A form whose operation gives `w` with these flags completes with `w` in A and the flags in F. -/
theorem AluForm.completes {w : Byte} {z n f c : Bool} (h : AluForm op i v m s u)
    (hr : alu8 op s.a v s.flagC = { value := w, z := some z, n := some n, h := some f, c := some c }) :
    ∃ t, exec i s = .next t ∧ t.a = w ∧ FlagsAre t z n f c ∧ SameRegsBut [.a] s t ∧ Keeps [.flags] u t ∧
      Costs m s t := by
  obtain ⟨unit, rfl⟩ := h.afterRead_eq
  have happly : applyAlu op v { s with unit } =
      State.setFlags { s with unit, a := w } (some z) (some n) (some f) (some c) := by
    simp only [applyAlu, State.setFlagsOf]
    rw [show State.flagC { s with unit } = s.flagC from rfl, hr]
  obtain ⟨hregs, hkeeps, hcosts⟩ := frame_setA_setFlags { s with unit } w (some z) (some n) (some f) (some c) m
  exact ⟨_, happly ▸ h.exec_eq, rfl, .of_setFlags rfl rfl rfl rfl m, hregs, hkeeps, hcosts⟩

/-- A form of a bitwise operation completes with the bits of its result in A and the flags of `logic8` (R146 to R148). -/
theorem AluForm.completes_logic {r : Byte} {half : Bool} {bit : Nat → Bool} (h : AluForm op i v m s u)
    (hr : alu8 op s.a v s.flagC = logic8 r half) (hbit : ∀ k, r.getLsbD k = bit k) :
    ∃ t, exec i s = .next t ∧ (∀ k, k < 8 → t.a.getLsbD k = bit k) ∧
      FlagsAre t (decide (t.a = 0#8)) false half false ∧ SameRegsBut [.a] s t ∧ Keeps [.flags] u t ∧
      Costs m s t := by
  obtain ⟨t, hexec, rfl, hrest⟩ := h.completes hr
  exact ⟨t, hexec, fun k _ => hbit k, hrest⟩

end

theorem operandReadFails_alu (op : AluOp) (s : State) : OperandReadFails (.alu op .indHl) s :=
  operandReadFails_of_exec_eq (exec_alu op .indHl s)

/-! Instructions that write their operand back -/

theorem operandForms_eq_operandCost (x : Operand8) (n m : Nat) : operandForms x n m = operandCost x n m := by
  cases x <;> rfl

/-- Writing an operand is what `OperandWritten` says, also past the flags and a tick. -/
theorem operandWritten_withOperand (s : State) (x : Operand8) (v : Byte) (z n h c : Option Bool) (k : Nat) :
    OperandWritten x v s (tick k ((s.withOperand x v).setFlags z n h c)) := by
  cases x with
  | reg r =>
    exact ⟨by simp [State.withOperand], ((SameRegsBut.setReg s r v).setFlags z n h c).tick k,
      .of_eq (State.setReg_mem s r v) (State.setReg_regions s r v) (State.setReg_unit s r v)⟩
  | indHl => exact ⟨((SameRegsBut.afterStore [] s s.hl v).setFlags z n h c).tick k, stores_afterStore s s.hl v⟩

theorem Keeps.afterOperand {ps : List Part} (s : State) (x : Operand8) (hp : Part.memory ∈ ps) :
    Keeps ps s (s.afterOperand x) := by
  obtain ⟨u, hu⟩ := State.afterOperand_eq s x
  simp [hu, Keeps, hp]

theorem Keeps.withOperand {ps : List Part} {s t : State} (x : Operand8) (v : Byte) (h : Keeps ps s t)
    (hp : Part.memory ∈ ps) : Keeps ps s (t.withOperand x v) := by
  cases x with
  | reg r => exact h.setReg r v
  | indHl =>
    obtain ⟨hf, hpc, hsp, -, hrest⟩ := h
    exact ⟨hf, hpc, hsp, absurd hp, hrest⟩

@[simp] theorem State.afterOperand_flagC (s : State) (x : Operand8) : (s.afterOperand x).flagC = s.flagC := by
  cases x <;> rfl

@[simp] theorem State.withOperand_flagC (s : State) (x : Operand8) (v : Byte) :
    (s.withOperand x v).flagC = s.flagC := by
  cases x with
  | reg r => cases r <;> rfl
  | indHl => rfl

@[simp] theorem State.afterOperand_clk (s : State) (x : Operand8) : (s.afterOperand x).clk = s.clk := by
  cases x <;> rfl

@[simp] theorem State.withOperand_clk (s : State) (x : Operand8) (v : Byte) : (s.withOperand x v).clk = s.clk := by
  cases x with
  | reg r => exact State.setReg_clk s r v
  | indHl => rfl

@[simp] theorem State.afterOperand_clockBits (s : State) (x : Operand8) :
    (s.afterOperand x).clockBits = s.clockBits := by
  cases x <;> rfl

@[simp] theorem State.withOperand_clockBits (s : State) (x : Operand8) (v : Byte) :
    (s.withOperand x v).clockBits = s.clockBits := by
  cases x with
  | reg r => exact State.setReg_clockBits s r v
  | indHl => rfl

/-- An instruction that reads its operand and then writes `f` of it back fails as the write does, whatever it does
afterwards. -/
theorem operandWriteFails_of_exec_eq {i : Instr} {s : State} {x : Operand8} {o : Byte} {f : State → Byte → Byte}
    {k : Byte → State → State → Out}
    (hi : exec i s = andThen (readR8 s x) fun v t => thenDo (writeR8 t x (f t v)) (k v t)) (ho : OperandHolds x o s) :
    OperandWriteFails i x (f (s.afterOperand x) o) s := by
  rintro info rfl hw
  rw [readR8_of_holds ho, andThen_next] at hi
  exact hi.trans (congrArg (thenDo · _) (memWrite_fails hw))

/-- An instruction that is `modifyWithFlags` with a result that sets Z, N and H fails as its write does, or completes
with exactly its operand and F written. -/
theorem modifies_of_exec_eq_modifyWithFlags {i : Instr} {s : State} {x : Operand8} {f : State → Byte → Result8}
    {m : Nat} {o w : Byte} {z n h : Bool} {c : Option Bool} (hi : exec i s = modifyWithFlags x f m s)
    (ho : OperandHolds x o s)
    (hr : f (s.afterOperand x) o = { value := w, z := some z, n := some n, h := some h, c := c }) :
    OperandWriteFails i x w s ∧
    (OperandWritable x w (s.afterOperand x) → ∃ t, exec i s = .next t ∧
      OperandWritten x w (s.afterOperand x) t ∧ FlagsAre t z n h (c.getD s.flagC) ∧ Keeps [.flags, .memory] s t ∧
      Costs m s t) := by
  have hvalue : (f (s.afterOperand x) o).value = w := by rw [hr]
  refine ⟨hvalue ▸ operandWriteFails_of_exec_eq (f := fun t v => (f t v).value) hi ho, fun hw => ?_⟩
  have hexec := hi.trans (modifyWithFlags_ok ho (hvalue.symm ▸ hw))
  rw [hvalue, hr] at hexec
  exact ⟨_, hexec, operandWritten_withOperand _ x w _ _ _ _ m, .of_setFlags rfl rfl rfl (by simp) m,
    (((Keeps.afterOperand s x (by decide)).withOperand x w (by decide)).setFlags _ _ _ _ (by decide)).tick m,
    .of_tick m (by simp [State.setFlagsOf]) (by simp [State.setFlagsOf])⟩

end Sys2Proof.Machine
end

section
/-! The obligations of spec/42_alu8.md. -/

namespace Sys2Proof.Machine

/-- Settles O40: each encoding by its formula, and what the decoder reads from an encoding. -/
theorem aluFormsEncodeByFormula : Obligations.AluFormsEncodeByFormula := fun op x v =>
  ⟨encode_alu op x, encode_aluImm op v, decode_of_encode_eq (alu_ne_prefixCb op x) (encode_alu op x),
    decode_of_encode_eq (aluImm_ne_prefixCb op v) (encode_aluImm op v)⟩

/-- Settles O41: every form completes with the result of `add8`, the carry in being `k`. -/
theorem addAndAddWithCarry : Obligations.AddAndAddWithCarry := by
  refine fun op k s hop => ⟨operandReadFails_alu op s, fun i v n u h => ?_⟩
  have halu : alu8 op s.a v s.flagC = add8 s.a v k := by
    simp only [List.mem_cons, Prod.mk.injEq, List.not_mem_nil, or_false] at hop
    obtain ⟨rfl, rfl⟩ | ⟨rfl, rfl⟩ := hop <;> rfl
  obtain ⟨t, hexec, ha, hrest⟩ := h.completes (halu.trans (add8_eq s.a v k))
  exact ⟨t, hexec, ha ▸ BitVec.toNat_ofNat _ 8, hrest⟩

/-- Settles O42: every form completes with the result of `sub8`, the borrow in being `k`. -/
theorem subtractAndSubtractWithBorrow : Obligations.SubtractAndSubtractWithBorrow := by
  refine fun op k s hop => ⟨operandReadFails_alu op s, fun i v n u h => ?_⟩
  obtain ⟨halu, hk⟩ : alu8 op s.a v s.flagC = sub8 s.a v k ∧ k ≤ 1 := by
    simp only [List.mem_cons, Prod.mk.injEq, List.not_mem_nil, or_false] at hop
    obtain ⟨rfl, rfl⟩ | ⟨rfl, rfl⟩ := hop
    · exact ⟨rfl, Nat.zero_le 1⟩
    · exact ⟨rfl, Bool.toNat_le _⟩
  obtain ⟨t, hexec, ha, hrest⟩ := h.completes (halu.trans (sub8_eq s.a v hk))
  exact ⟨t, hexec, ha ▸ BitVec.toNat_ofNat _ 8, hrest⟩

/-- Settles O43: the result of a comparison is A itself, with the flags of the difference. -/
theorem compareLeavesA : Obligations.CompareLeavesA := by
  refine fun s => ⟨operandReadFails_alu .cp s, fun i v n u h => ?_⟩
  obtain ⟨t, hexec, ha, hflags, hregs, hrest⟩ := h.completes (alu8_cp_eq s.a v s.flagC)
  exact ⟨t, hexec, hflags, hregs.of_same ha, hrest⟩

/-- Settles O44: a bitwise result bit by bit, with the flags of `logic8`. -/
theorem bitwiseOperations : Obligations.BitwiseOperations := by
  refine fun op s hop => ⟨operandReadFails_alu op s, fun i v n u h => ?_⟩
  simp only [List.mem_cons, List.not_mem_nil, or_false] at hop
  obtain rfl | rfl | rfl := hop
  · exact h.completes_logic rfl fun _ => BitVec.getLsbD_and
  · exact h.completes_logic rfl fun _ => BitVec.getLsbD_xor
  · exact h.completes_logic rfl fun _ => BitVec.getLsbD_or

/-- Settles O45: `modifyWithFlags` with the result of `incr8`. -/
theorem incrementByte : Obligations.IncrementByte := fun x s =>
  ⟨encode_inc8 x, operandReadFails_of_exec_eq (exec_inc8 .indHl s), fun o ho =>
    operandForms_eq_operandCost x 1 3 ▸ modifies_of_exec_eq_modifyWithFlags (exec_inc8 x s) ho (incr8_eq o)⟩

/-- Settles O46: `modifyWithFlags` with the result of `decr8`. -/
theorem decrementByte : Obligations.DecrementByte := fun x s =>
  ⟨encode_dec8 x, operandReadFails_of_exec_eq (exec_dec8 .indHl s), fun o ho =>
    operandForms_eq_operandCost x 1 3 ▸ modifies_of_exec_eq_modifyWithFlags (exec_dec8 x s) ho (decr8_eq o)⟩

/-- Settles O47: A and F take the result of `decimalAdjust`, by the two arms on N. -/
theorem decimalAdjustAccumulator : Obligations.DecimalAdjustAccumulator := by
  refine fun s => ⟨rfl, _, rfl, fun hn => ?_, fun hn => ?_, frame_setA_setFlags s _ _ _ _ _ 1⟩
  · obtain ⟨hvalue, hc⟩ := decimalAdjust_of_not_n hn s.a s.flagH s.flagC
    exact ⟨hvalue, .of_setFlags rfl (by exact hn) rfl (by rw [hc]; rfl) 1⟩
  · obtain ⟨hvalue, hc⟩ := decimalAdjust_of_n hn s.a s.flagH s.flagC
    exact ⟨hvalue, .of_setFlags rfl (by exact hn) rfl (by rw [hc]; rfl) 1⟩

/-- Settles O48: each is one write of F, after one of A for CPL. -/
theorem complementAndCarryFlag : Obligations.ComplementAndCarryFlag := fun s =>
  ⟨rfl, rfl, rfl,
    ⟨_, rfl, complement_toNat s.a, .of_setFlags rfl rfl rfl rfl 1, frame_setA_setFlags s _ _ _ _ _ 1⟩,
    ⟨_, rfl, .of_setFlags rfl rfl rfl rfl 1, frame_setFlags s _ _ _ _ 1⟩,
    ⟨_, rfl, .of_setFlags rfl rfl rfl rfl 1, frame_setFlags s _ _ _ _ 1⟩⟩

end Sys2Proof.Machine
end

section
/-! SUPPORT. The 16-bit arithmetic (spec/43_alu16.md): its encodings by operand code (spec/30_encoding.md R75),
`ADD HL,rr` as arithmetic on numbers, and the write of one 16-bit register by INC rr and DEC rr. -/

namespace Sys2Proof.Machine

theorem encode_addHl (rr : Reg16) : encode (.addHl rr) = [opcode (0x09 + 16 * reg16Code rr)] := by cases rr <;> rfl

theorem encode_incReg16 (rr : Reg16) : encode (.incReg16 rr) = [opcode (0x03 + 16 * reg16Code rr)] := by
  cases rr <;> rfl

theorem encode_decReg16 (rr : Reg16) : encode (.decReg16 rr) = [opcode (0x0B + 16 * reg16Code rr)] := by
  cases rr <;> rfl

/-- The sum and the flags -0HC, H out of bit 11 and C out of bit 15 (R171). -/
theorem add16_eq (x v : Word) : add16 x v =
    { value := BitVec.ofNat 16 (x.toNat + v.toNat), z := none, n := some false,
      h := some (decide (4095 < x.toNat % 4096 + v.toNat % 4096)), c := some (decide (65535 < x.toNat + v.toNat)) } := by
  have low12 (w : Word) : (w &&& 0x0FFF#16).toNat = w.toNat % 4096 := Nat.and_two_pow_sub_one_eq_mod w.toNat 12
  simp only [add16, low12, gt_iff_lt]

theorem addToHl_eq (rr : Reg16) (s : State) : addToHl rr s =
    .next (tick 2 ((s.setHl (BitVec.ofNat 16 (s.hl.toNat + (s.reg16 rr).toNat))).setFlags none (some false)
      (some (decide (4095 < s.hl.toNat % 4096 + (s.reg16 rr).toNat % 4096)))
      (some (decide (65535 < s.hl.toNat + (s.reg16 rr).toNat))))) := by
  rw [addToHl, add16_eq, finish]

/-- What an instruction does that takes two machine cycles and only writes `w` to the register `rr`. -/
theorem writesReg16_of_exec_eq {i : Instr} {rr : Reg16} {w : Word} {v : Nat} {s : State}
    (hi : exec i s = finish 2 (s.setReg16 rr w)) (hw : w.toNat = v) :
    ∃ t, exec i s = .next t ∧ (t.reg16 rr).toNat = v ∧ (∀ q, q ≠ rr → t.reg16 q = s.reg16 q) ∧ t.a = s.a ∧
      Keeps [.sp] s t ∧ Costs 2 s t := by
  refine ⟨_, hi, ?_, fun q hq => ?_, ?_, ((Keeps.refl _ s).setReg16 rr w (by decide)).tick 2,
    .of_tick 2 (by simp) (by simp)⟩
  · rw [tick_reg16, State.reg16_setReg16_same, hw]
  · rw [tick_reg16, State.reg16_setReg16_other s w hq]
  · rw [tick_a, State.setReg16_a]

end Sys2Proof.Machine
end

section
/-! The obligations of spec/43_alu16.md, in a namespace of their own: one of them shares its name with the operation it
speaks of. -/

namespace Sys2Proof.Machine.Alu16

/-- Settles O49: one write of HL and one of F, with the sum and the flags of `add16`. -/
theorem addToHl : Obligations.AddToHl := by
  refine fun rr s => ⟨encode_addHl rr, _, (exec_addHl rr s).trans (addToHl_eq rr s), ?_, ?_,
    (((SameRegsBut.refl [.h, .l] s).setHl _ (by decide) (by decide)).setFlags _ _ _ _).tick 2,
    (((Keeps.refl _ s).setHl _).setFlags _ _ _ _ (by decide)).tick 2, .of_tick 2 rfl rfl⟩
  · rw [tick_hl, setFlags_hl, State.hl_setHl, BitVec.toNat_ofNat]
  · exact .of_setFlags rfl rfl rfl rfl 2

/-- Settles O50: one write of `rr`, of its successor or of its predecessor modulo 2^16. -/
theorem stepSixteenBitRegister : Obligations.StepSixteenBitRegister := by
  refine fun rr s => ⟨encode_incReg16 rr, encode_decReg16 rr, fun i v hiv => ?_⟩
  simp only [List.mem_cons, Prod.mk.injEq, List.not_mem_nil, or_false] at hiv
  obtain ⟨rfl, hv⟩ | ⟨rfl, hv⟩ := hiv
  · exact writesReg16_of_exec_eq (exec_incReg16 rr s) ((BitVec.toNat_add _ _).trans hv.symm)
  · have hpred : (s.reg16 rr - 1#16).toNat = ((s.reg16 rr).toNat + 65535) % 65536 := by bv_omega
    exact writesReg16_of_exec_eq (exec_decReg16 rr s) (hpred.trans hv.symm)

end Sys2Proof.Machine.Alu16
end

section
/-! SUPPORT. The rotates, shifts and bit operations (spec/44_rotate_shift_bit.md): their encodings by operand code
(spec/30_encoding.md R74, R80), the results of `rotate` as arithmetic on numbers, and what an instruction does that
tests its operand or writes it back with no flag touched. -/

namespace Sys2Proof.Machine

/-! Encodings -/

theorem encode_rot (op : RotOp) (x : Operand8) :
    encode (.rot op x) = [0xCB#8, opcode (8 * rotCode op + operandCode x)] := by
  cases x with
  | reg r => cases op <;> cases r <;> rfl
  | indHl => cases op <;> rfl

theorem encode_bit (b : Fin 8) (x : Operand8) :
    encode (.bit b x) = [0xCB#8, opcode (0x40 + 8 * b.val + operandCode x)] := by
  cases x with
  | reg r => revert b; cases r <;> decide
  | indHl => revert b; decide

theorem encode_res (b : Fin 8) (x : Operand8) :
    encode (.res b x) = [0xCB#8, opcode (0x80 + 8 * b.val + operandCode x)] := by
  cases x with
  | reg r => revert b; cases r <;> decide
  | indHl => revert b; decide

theorem encode_set (b : Fin 8) (x : Operand8) :
    encode (.set b x) = [0xCB#8, opcode (0xC0 + 8 * b.val + operandCode x)] := by
  cases x with
  | reg r => revert b; cases r <;> decide
  | indHl => revert b; decide

/-! Results as arithmetic -/

theorem bitByte_toNat (b : Bool) : (bitByte b).toNat = b.toNat := by cases b <;> rfl

/-- A bit of a byte as arithmetic on the number. -/
theorem getLsbD_eq_decide (v : Byte) (n : Nat) : v.getLsbD n = decide (v.toNat / 2 ^ n % 2 = 1) :=
  Nat.testBit_eq_decide_div_mod_eq

theorem getLsbD_zero_eq_decide (v : Byte) : v.getLsbD 0 = decide (v.toNat % 2 = 1) := Nat.testBit_zero v.toNat

theorem getLsbD_seven_eq_decide (v : Byte) : v.getLsbD 7 = decide (128 ≤ v.toNat) :=
  v.msb_eq_getLsbD_last.symm.trans v.msb_eq_decide

theorem toNat_getLsbD_zero (v : Byte) : (v.getLsbD 0).toNat = v.toNat % 2 :=
  (Nat.toNat_testBit v.toNat 0).trans (by rw [Nat.pow_zero, Nat.div_one])

theorem toNat_getLsbD_seven (v : Byte) : (v.getLsbD 7).toNat = v.toNat / 128 := by
  have := v.isLt
  exact (Nat.toNat_testBit v.toNat 7).trans (by omega)

theorem shiftLeft_one_toNat (v : Byte) : (v <<< 1).toNat = 2 * v.toNat % 256 := by
  rw [BitVec.toNat_shiftLeft, Nat.shiftLeft_eq, Nat.mul_comm]

theorem shiftRight_one_toNat (v : Byte) : (v >>> 1).toNat = v.toNat / 2 := by
  rw [BitVec.toNat_ushiftRight, Nat.shiftRight_eq_div_pow]

/-- A bit shifted in on the right: the shift leaves bit 0 free. -/
theorem shiftLeft_or_bitByte_toNat (v : Byte) (b : Bool) :
    ((v <<< 1) ||| bitByte b).toNat = 2 * v.toNat % 256 + b.toNat := by
  have hshift : 2 * v.toNat % 256 = (v.toNat % 128) <<< 1 := by
    rw [Nat.shiftLeft_eq]
    omega
  rw [BitVec.toNat_or, shiftLeft_one_toNat, bitByte_toNat, hshift, Nat.shiftLeft_add_eq_or_of_lt b.toNat_lt]

/-- A bit shifted in on the left: the shift leaves bit 7 free. -/
theorem shiftRight_or_bitByte_toNat (v : Byte) (b : Bool) :
    ((v >>> 1) ||| (bitByte b <<< 7)).toNat = v.toNat / 2 + 128 * b.toNat := by
  have hbit : (bitByte b <<< 7).toNat = b.toNat <<< 7 := by cases b <;> rfl
  have hhalf : v.toNat / 2 < 2 ^ 7 := by
    have := v.isLt
    omega
  rw [BitVec.toNat_or, shiftRight_one_toNat, hbit, Nat.or_comm, ← Nat.shiftLeft_add_eq_or_of_lt hhalf,
    Nat.shiftLeft_eq]
  omega

/-- Bit 7 alone is bit 7 shifted to its place, as `SRA` keeps it (R190). -/
theorem and_bit_seven (v : Byte) : v &&& 0x80#8 = bitByte (v.getLsbD 7) <<< 7 := by
  rw [show (0x80#8 : Byte) = BitVec.twoPow 8 7 from rfl, BitVec.and_twoPow]
  cases v.getLsbD 7 <;> rfl

/-- The nibbles exchanged: each shift leaves the other's four bits free (R191). -/
theorem swap_nibbles_toNat (v : Byte) :
    (((v <<< 4) &&& 0xF0#8) ||| (v >>> 4)).toNat = 16 * (v.toNat % 16) + v.toNat / 16 := by
  have hlow : ((v <<< 4) &&& 0xF0#8).toNat = (v.toNat % 16) <<< 4 := by
    have hnibble : (v &&& 0x0F#8).toNat = v.toNat % 16 := lowNibble_toNat v
    rw [show 0xF0#8 = 0x0F#8 <<< 4 from rfl, ← BitVec.shiftLeft_and_distrib, BitVec.toNat_shiftLeft, hnibble,
      Nat.shiftLeft_eq]
    omega
  have hhigh : v.toNat / 16 < 2 ^ 4 := by
    have := v.isLt
    omega
  rw [BitVec.toNat_or, hlow, BitVec.toNat_ushiftRight, Nat.shiftRight_eq_div_pow,
    ← Nat.shiftLeft_add_eq_or_of_lt hhigh, Nat.shiftLeft_eq, Nat.mul_comm]

/-- The value of a rotate or shift (R185 to R192): one shift, with the bit that the operation puts in. -/
theorem rotate_value_toNat (op : RotOp) (v : Byte) (k : Bool) :
    (rotate op v k).value.toNat = rotatedNat op v.toNat k.toNat := by
  cases op with
  | rlc => exact (shiftLeft_or_bitByte_toNat v _).trans (by rw [toNat_getLsbD_seven, rotatedNat])
  | rrc => exact (shiftRight_or_bitByte_toNat v _).trans (by rw [toNat_getLsbD_zero, rotatedNat])
  | rl => exact shiftLeft_or_bitByte_toNat v k
  | rr => exact shiftRight_or_bitByte_toNat v k
  | sla => exact shiftLeft_one_toNat v
  | sra =>
    rw [rotate, and_bit_seven]
    exact (shiftRight_or_bitByte_toNat v _).trans (by rw [toNat_getLsbD_seven, rotatedNat])
  | swap => exact swap_nibbles_toNat v
  | srl => exact shiftRight_one_toNat v

/-- The flags of a rotate or shift are Z00C, C the bit that left (R185 to R192). -/
theorem rotate_eq_shifted (op : RotOp) (v : Byte) (k : Bool) :
    rotate op v k = shifted (rotate op v k).value (rotatedCarry op v.toNat) := by
  cases op with
  | rlc | rl | sla => simp only [rotate, rotatedCarry, getLsbD_seven_eq_decide, shifted]
  | rrc | rr | sra | srl => simp only [rotate, rotatedCarry, getLsbD_zero_eq_decide, shifted]
  | swap => rfl

/-! The accumulator rotates -/

/-- A rotate of A completes with its result in A and the flags 000C (R181 to R184). -/
theorem completes_of_exec_eq_rotateA {i : Instr} {op : RotOp} {s : State} (hi : exec i s = rotateA op s) :
    ∃ t, exec i s = .next t ∧ t.a.toNat = rotatedNat op s.a.toNat s.flagC.toNat ∧
      FlagsAre t false false false (rotatedCarry op s.a.toNat) ∧ SameRegsBut [.a] s t ∧ Keeps [.flags] s t ∧
      Costs 1 s t := by
  have hr := rotate_eq_shifted op s.a s.flagC
  rw [rotateA, rotateAcc, hr] at hi
  exact ⟨_, hi, rotate_value_toNat op s.a s.flagC, .of_setFlags rfl rfl rfl rfl 1,
    frame_setA_setFlags s _ _ _ _ _ 1⟩

/-! BIT -/

theorem testBit_ok {x : Operand8} {s : State} {v : Byte} (b : Nat) (h : OperandHolds x v s) :
    testBit b x s = .next (tick (operandCost x 2 3)
      ((s.afterOperand x).setFlags (some (!v.getLsbD b)) (some false) (some true) none)) := by
  rw [testBit, readR8_of_holds h, andThen_next, finish]

theorem not_getLsbD_eq_decide (v : Byte) (n : Nat) : (!v.getLsbD n) = decide (v.toNat / 2 ^ n % 2 = 0) := by
  rw [getLsbD_eq_decide, ← decide_not, decide_eq_decide]
  omega

/-- A write of F past the read of an operand, and a tick, change nothing else but what the Memory Unit remembers of
the read. -/
theorem frame_afterOperand_setFlags (s : State) (x : Operand8) (z n h c : Option Bool) (k : Nat) :
    SameRegsBut [] s (tick k ((s.afterOperand x).setFlags z n h c)) ∧
    Keeps [.flags] (s.afterOperand x) (tick k ((s.afterOperand x).setFlags z n h c)) ∧
    Costs k s (tick k ((s.afterOperand x).setFlags z n h c)) := by
  obtain ⟨u, hu⟩ := State.afterOperand_eq s x
  rw [hu]
  exact frame_setFlags { s with unit := u } z n h c k

/-! RES and SET -/

theorem operandWritten_tick_withOperand (s : State) (x : Operand8) (v : Byte) (k : Nat) :
    OperandWritten x v s (tick k (s.withOperand x v)) := by
  cases x with
  | reg r =>
    exact ⟨by simp [State.withOperand], SameRegsBut.setReg_tick s r v k,
      .of_eq (State.setReg_mem s r v) (State.setReg_regions s r v) (State.setReg_unit s r v)⟩
  | indHl => exact ⟨(SameRegsBut.afterStore [] s s.hl v).tick k, (stores_afterStore s s.hl v).tick k⟩

/-- An instruction that is `modifyPlain` fails as its write does, or completes with exactly its operand written. -/
theorem modifies_of_exec_eq_modifyPlain {i : Instr} {s : State} {x : Operand8} {f : Byte → Byte} {m : Nat} {v : Byte}
    (hi : exec i s = modifyPlain x f m s) (hv : OperandHolds x v s) :
    OperandWriteFails i x (f v) s ∧
    (OperandWritable x (f v) (s.afterOperand x) → ∃ t, exec i s = .next t ∧
      OperandWritten x (f v) (s.afterOperand x) t ∧ Keeps [.memory] s t ∧ Costs m s t) := by
  refine ⟨operandWriteFails_of_exec_eq (f := fun _ => f) hi hv, fun hw => ?_⟩
  exact ⟨_, hi.trans (modifyPlain_ok hv hw), operandWritten_tick_withOperand _ x (f v) m,
    ((Keeps.afterOperand s x (by decide)).withOperand x (f v) (by decide)).tick m, .of_tick m (by simp) (by simp)⟩

/-- `RES` forces the bit to zero and keeps the others (R194). -/
theorem clearBit_forces (v : Byte) {n : Nat} (hn : n ≤ 7) :
    (clearBit v n).getLsbD n = false ∧ ∀ k, k ≠ n → (clearBit v n).getLsbD k = v.getLsbD k := by
  obtain ⟨r, hr, hforced⟩ := setBit_forces v false hn
  cases (setBit_of_le v false hn).symm.trans hr
  exact hforced

/-- `SET` forces the bit to one and keeps the others (R195). -/
theorem raiseBit_forces (v : Byte) {n : Nat} (hn : n ≤ 7) :
    (raiseBit v n).getLsbD n = true ∧ ∀ k, k ≠ n → (raiseBit v n).getLsbD k = v.getLsbD k := by
  obtain ⟨r, hr, hforced⟩ := setBit_forces v true hn
  cases (setBit_of_le v true hn).symm.trans hr
  exact hforced

end Sys2Proof.Machine
end

section
/-! The obligations of spec/44_rotate_shift_bit.md. -/

namespace Sys2Proof.Machine

/-- Settles O51: each is a rotate of A, whose value and carry are those of `rotate`. -/
theorem accumulatorRotates : Obligations.AccumulatorRotates := by
  refine ⟨rfl, rfl, rfl, rfl, fun i op s h => completes_of_exec_eq_rotateA ?_⟩
  simp only [List.mem_cons, Prod.mk.injEq, List.not_mem_nil, or_false] at h
  obtain ⟨rfl, rfl⟩ | ⟨rfl, rfl⟩ | ⟨rfl, rfl⟩ | ⟨rfl, rfl⟩ := h <;> rfl

/-- Settles O52: `modifyWithFlags` with the result of `rotate`; reading the operand leaves the carry in. -/
theorem extendedRotatesAndShifts : Obligations.ExtendedRotatesAndShifts := by
  refine fun op x s => ⟨encode_rot op x, operandReadFails_of_exec_eq (exec_rot op .indHl s), fun v hv => ?_⟩
  have hr : rotate op v (s.afterOperand x).flagC =
      shifted (rotate op v s.flagC).value (rotatedCarry op v.toNat) := by
    rw [State.afterOperand_flagC, ← rotate_eq_shifted]
  exact ⟨_, rotate_value_toNat op v s.flagC,
    operandForms_eq_operandCost x 2 4 ▸ modifies_of_exec_eq_modifyWithFlags (exec_rot op x s) hv hr⟩

/-- Settles O53: one write of F past the read of the operand. -/
theorem testBitOfOperand : Obligations.TestBitOfOperand := by
  refine fun b x s => ⟨encode_bit b x, operandReadFails_of_exec_eq (exec_bit b .indHl s), fun v hv => ?_⟩
  have hcarry : (none : Option Bool).getD (s.afterOperand x).flagC = s.flagC := State.afterOperand_flagC s x
  exact ⟨_, (exec_bit b x s).trans (testBit_ok b hv),
    .of_setFlags (z := some _) (not_getLsbD_eq_decide v b) rfl rfl hcarry _,
    operandForms_eq_operandCost x 2 3 ▸ frame_afterOperand_setFlags s x _ _ _ _ _⟩

/-- Settles O54: `modifyPlain` with the bit forced to zero or to one. -/
theorem resetAndSetBitOfOperand : Obligations.ResetAndSetBitOfOperand := by
  refine fun b x s => ⟨encode_res b x, encode_set b x, operandReadFails_of_exec_eq (exec_res b .indHl s),
    operandReadFails_of_exec_eq (exec_set b .indHl s), fun v hv i forced hi => ?_⟩
  have hb : b.val ≤ 7 := Nat.le_of_lt_succ b.isLt
  rw [operandForms_eq_operandCost]
  simp only [List.mem_cons, Prod.mk.injEq, List.not_mem_nil, or_false] at hi
  obtain ⟨rfl, rfl⟩ | ⟨rfl, rfl⟩ := hi
  · obtain ⟨hbit, hothers⟩ := clearBit_forces v hb
    exact ⟨_, hbit, hothers, modifies_of_exec_eq_modifyPlain (f := (clearBit · b)) (exec_res b x s) hv⟩
  · obtain ⟨hbit, hothers⟩ := raiseBit_forces v hb
    exact ⟨_, hbit, hothers, modifies_of_exec_eq_modifyPlain (f := (raiseBit · b)) (exec_set b x s) hv⟩

end Sys2Proof.Machine
end

section
/-! SUPPORT. Control transfer (spec/45_control.md): its encodings by condition code and restart index
(spec/30_encoding.md R71, R78), how `Keeps` follows past a write of PC or of `ime`, and what an instruction does that is
a jump, a call or a return. -/

namespace Sys2Proof.Machine

theorem encode_jpCond (cc : Cond) (x : Word) :
    encode (.jpCond cc x) = [opcode (0xC2 + 8 * condCode cc), lo x, hi x] := by
  cases cc <;> rfl

theorem encode_jrCond (cc : Cond) (e : Byte) : encode (.jrCond cc e) = [opcode (0x20 + 8 * condCode cc), e] := by
  cases cc <;> rfl

theorem encode_callCond (cc : Cond) (x : Word) :
    encode (.callCond cc x) = [opcode (0xC4 + 8 * condCode cc), lo x, hi x] := by
  cases cc <;> rfl

theorem encode_retCond (cc : Cond) : encode (.retCond cc) = [opcode (0xC0 + 8 * condCode cc)] := by cases cc <;> rfl

theorem encode_rst (y : Fin 8) : encode (.rst y) = [opcode (0xC7 + 8 * y.val)] := by
  match y with
  | 0 | 1 | 2 | 3 | 4 | 5 | 6 | 7 => rfl

section
variable {ps : List Part} {s t : State}

theorem Keeps.setPc (x : Word) (h : Keeps ps s t) (hp : Part.pc ∈ ps) : Keeps ps s { t with pc := x } := by
  obtain ⟨hf, -, hrest⟩ := h
  exact ⟨hf, absurd hp, hrest⟩

theorem Keeps.setIme (b : Bool) (h : Keeps ps s t) (hp : Part.ime ∈ ps) : Keeps ps s { t with ime := b } := by
  obtain ⟨hf, hpc, hsp, hmem, -, hrest⟩ := h
  exact ⟨hf, hpc, hsp, hmem, absurd hp, hrest⟩

theorem Keeps.mono {qs : List Part} (h : Keeps ps s t) (hs : ps ⊆ qs) : Keeps qs s t := by
  obtain ⟨hf, hpc, hsp, hmem, hime, hhalted, hstopped, hrest⟩ := h
  exact ⟨hf ∘ mt (@hs _), hpc ∘ mt (@hs _), hsp ∘ mt (@hs _), hmem ∘ mt (@hs _), hime ∘ mt (@hs _),
    hhalted ∘ mt (@hs _), hstopped ∘ mt (@hs _), hrest⟩

end

/-- The target of `JR`: the address after the instruction plus the signed displacement, modulo 2^16 (R204). -/
theorem relativeTarget_eq (e : Byte) (s : State) :
    relativeTarget e s = BitVec.ofInt 16 ((s.pc.toNat : Int) + e.toInt) :=
  add_sext16 s.pc e

/-- A conditional jump goes to the next instruction where the condition fails (R200). -/
theorem jumpIf_eq_jumpTo (cc : Cond) (x : Word) (taken notTaken : Nat) (s : State) : jumpIf cc x taken notTaken s =
    jumpTo (if s.cond cc then x else s.pc) (if s.cond cc then taken else notTaken) s := by
  unfold jumpIf
  split
  · rfl
  · rfl

theorem callIf_of_cond {cc : Cond} {s : State} (x : Word) (h : s.cond cc = true) : callIf cc x s = callTo x 6 s :=
  if_pos h

theorem callIf_of_not_cond {cc : Cond} {s : State} (x : Word) (h : s.cond cc = false) : callIf cc x s = finish 3 s :=
  if_neg (ne_true_of_eq_false h)

theorem returnIf_of_cond {cc : Cond} {s : State} (h : s.cond cc = true) : returnIf cc s = returnFrom 5 s := if_pos h

theorem returnIf_of_not_cond {cc : Cond} {s : State} (h : s.cond cc = false) : returnIf cc s = finish 2 s :=
  if_neg (ne_true_of_eq_false h)

theorem callTo_ok {s : State} (x : Word) (n : Nat) (h : s.canPush s.pc) :
    callTo x n s = .next (tick n { pushedState s s.pc with pc := x }) := by
  rw [callTo, push16_ok h, thenDo_next, finish]

section
variable {i : Instr} {s : State}

/-- An instruction that only spends its cost changes nothing but the clock. -/
theorem idles_of_exec_eq_finish {n : Nat} (hi : exec i s = finish n s) :
    ∃ t, exec i s = .next t ∧ SameRegsBut [] s t ∧ Keeps [] s t ∧ Costs n s t :=
  ⟨_, hi, (SameRegsBut.refl [] s).tick n, (Keeps.refl [] s).tick n, .of_tick n rfl rfl⟩

/-- A jump writes PC and nothing else. -/
theorem jumps_of_exec_eq_jumpTo {x : Word} {n : Nat} (hi : exec i s = jumpTo x n s) :
    ∃ t, exec i s = .next t ∧ t.pc = x ∧ SameRegsBut [] s t ∧ Keeps [.pc] s t ∧ Costs n s t :=
  ⟨_, hi, rfl, SameRegsBut.refl [] s, ((Keeps.refl [.pc] s).setPc x (by decide)).tick n, .of_tick n rfl rfl⟩

/-- A call pushes the address after the instruction and goes to its target, or fails as the push does. -/
theorem calls_of_exec_eq_callTo {x : Word} {n : Nat} (hi : exec i s = callTo x n s) :
    (s.canPush s.pc → ∃ t, exec i s = .next t ∧ t.pc = x ∧ Pushed s.pc s t ∧ SameRegsBut [] s t ∧
      Keeps [.pc, .sp, .memory] s t ∧ Costs n s t) ∧
    PushFails i s.pc s := by
  refine ⟨fun h => ⟨_, hi.trans (callTo_ok x n h), rfl, (pushed_pushedState s s.pc).jump_tick x n,
    SameRegsBut.pushedState [] s s.pc, ?_, .of_tick n rfl rfl⟩, pushFails_of_exec_eq hi⟩
  exact (((Keeps.pushedState s s.pc).mono (by decide)).setPc x (by decide)).tick n

/-- A return takes PC from the stack, low byte first, and writes `ime` only after both reads, so that a failing read
leaves it (D8). -/
theorem returns_of_exec_eq_pop16 {enabled : Bool} {n : Nat} {k : Word → State → Out}
    (hi : exec i s = andThen (pop16 s) k)
    (hk : ∀ x, k x { s.afterPop with sp := s.sp + 2#16 } =
      finish n { s.afterPop with sp := s.sp + 2#16, pc := x, ime := enabled }) :
    (∀ l g, s.popReads l g → ∃ t, exec i s = .next t ∧
      t.pc.toNat = l.toNat + 256 * g.toNat ∧ t.sp = s.sp + 2#16 ∧ t.ime = enabled ∧ SameRegsBut [] s t ∧
      Keeps [.pc, .sp, .ime] s.afterPop t ∧ Costs n s t) ∧
    PopFails i s := by
  refine ⟨fun l g h => ?_, popFails_of_exec_eq hi⟩
  have hnext : exec i s = finish n { s.afterPop with sp := s.sp + 2#16, pc := join g l, ime := enabled } := by
    rw [hi, pop16_ok h, andThen_next, hk]
  have hpc : (join g l).toNat = l.toNat + 256 * g.toNat := by
    rw [join_toNat]
    omega
  have hregs := ((SameRegsBut.afterPop [] s).setSp (s.sp + 2#16)).tick n
  have hkeeps := ((((Keeps.refl [.pc, .sp, .ime] s.afterPop).setSp (s.sp + 2#16) (by decide)).setPc (join g l)
    (by decide)).setIme enabled (by decide)).tick n
  exact ⟨_, hnext, hpc, rfl, rfl, hregs, hkeeps, .of_tick n rfl rfl⟩

end

end Sys2Proof.Machine
end

section
/-! The obligations of spec/45_control.md. -/

namespace Sys2Proof.Machine

/-- Settles O55: each form is `jumpTo` with its target. -/
theorem unconditionalJumps : Obligations.UnconditionalJumps := by
  refine fun x e s => ⟨rfl, rfl, rfl, fun i target cost h => jumps_of_exec_eq_jumpTo ?_⟩
  simp only [List.mem_cons, Prod.mk.injEq, List.not_mem_nil, or_false] at h
  obtain ⟨rfl, rfl, rfl⟩ | ⟨rfl, rfl, rfl⟩ | ⟨rfl, rfl, rfl⟩ := h
  · rfl
  · rfl
  · rw [← relativeTarget_eq]
    rfl

/-- Settles O56: each form is `jumpIf`, a jump to the target or to the next instruction. -/
theorem conditionalJumps : Obligations.ConditionalJumps := by
  refine fun cc x e s => ⟨rfl, rfl, rfl, rfl, encode_jpCond cc x, encode_jrCond cc e,
    fun i target taken notTaken h => jumps_of_exec_eq_jumpTo ?_⟩
  rw [← jumpIf_eq_jumpTo]
  simp only [List.mem_cons, Prod.mk.injEq, List.not_mem_nil, or_false] at h
  obtain ⟨rfl, rfl, rfl, rfl⟩ | ⟨rfl, rfl, rfl, rfl⟩ := h
  · exact exec_jpCond cc _ s
  · rw [← relativeTarget_eq]
    exact exec_jrCond cc e s

/-- Settles O57: each form, taken, is `callTo`; a conditional call not taken only spends its cost. -/
theorem callsAndRestarts : Obligations.CallsAndRestarts := by
  refine fun cc y x s => ⟨rfl, encode_callCond cc x, encode_rst y,
    fun hc => idles_of_exec_eq_finish ((exec_callCond cc x s).trans (callIf_of_not_cond x hc)),
    fun i target cost h htaken => calls_of_exec_eq_callTo ?_⟩
  simp only [List.mem_cons, Prod.mk.injEq, List.not_mem_nil, or_false] at h
  obtain ⟨rfl, rfl, rfl⟩ | ⟨rfl, rfl, rfl⟩ | ⟨rfl, rfl, rfl⟩ := h
  · rfl
  · exact (exec_callCond cc _ s).trans (callIf_of_cond _ (htaken rfl))
  · exact exec_rst y s

/-- Settles O58: each form, taken, is a pop into PC; RETI also sets `ime`, the others write it back as it was. -/
theorem returns : Obligations.Returns := by
  refine fun cc s => ⟨rfl, rfl, encode_retCond cc,
    fun hc => idles_of_exec_eq_finish ((exec_retCond cc s).trans (returnIf_of_not_cond hc)),
    fun i enabled cost h htaken => ?_⟩
  simp only [List.mem_cons, Prod.mk.injEq, List.not_mem_nil, or_false] at h
  obtain ⟨rfl, rfl, rfl⟩ | ⟨rfl, rfl, rfl⟩ | ⟨rfl, rfl, rfl⟩ := h
  · exact returns_of_exec_eq_pop16 rfl fun _ => rfl
  · exact returns_of_exec_eq_pop16 rfl fun _ => rfl
  · exact returns_of_exec_eq_pop16 ((exec_retCond cc s).trans (returnIf_of_cond (htaken rfl))) fun _ => rfl

end Sys2Proof.Machine
end

section
/-! SUPPORT. The system instructions (spec/46_system.md): the rows of the extended table by the fields of their opcode
(spec/30_encoding.md R73, R83), what an extended operation does where (HL) can be read and written, and the step of an
instruction of one byte (R70). -/

namespace Sys2Proof.Machine

/-! The extended table -/

theorem extendedRot_get (y z : Fin 8) : (extendedRot.get y).get z = .rot (rotOpOfCode y) (operand8OfCode z) := by
  revert y z
  decide

theorem extendedBit_get (y z : Fin 8) : (extendedBit.get y).get z = .bit y (operand8OfCode z) := by
  revert y z
  decide

theorem extendedRes_get (y z : Fin 8) : (extendedRes.get y).get z = .res y (operand8OfCode z) := by
  revert y z
  decide

theorem extendedSet_get (y z : Fin 8) : (extendedSet.get y).get z = .set y (operand8OfCode z) := by
  revert y z
  decide

theorem opcodeX_cases (op : Byte) : opcodeX op = 0 ∨ opcodeX op = 1 ∨ opcodeX op = 2 ∨ opcodeX op = 3 := by
  have := op.isLt
  unfold opcodeX
  omega

theorem extended_eq_get (op : Byte) : extended op =
    ((extendedTable.get (Fin.ofNat 4 (opcodeX op))).get (opcodeY op)).get (opcodeZ op) := rfl

/-- The row of an extended opcode means the operation its fields name: bits 7..6 choose among the four blocks of the
table, each of which is one view (R83). -/
theorem exec_extended (op : Byte) (s : State) : exec (extended op) s = extendedOperation op s := by
  rw [extended_eq_get, extendedOperation]
  obtain hx | hx | hx | hx := opcodeX_cases op
  · rw [hx]
    exact (congrArg (exec · s) (extendedRot_get _ _)).trans (exec_rot _ _ s)
  · rw [hx]
    exact (congrArg (exec · s) (extendedBit_get _ _)).trans (exec_bit _ _ s)
  · rw [hx]
    exact (congrArg (exec · s) (extendedRes_get _ _)).trans (exec_res _ _ s)
  · rw [hx]
    exact (congrArg (exec · s) (extendedSet_get _ _)).trans (exec_set _ _ s)

theorem decode_prefix (op2 : Byte) : decode [0xCB#8, op2] = .ok (extended op2, []) := rfl

/-- The prefix row fetches a byte and runs the row of the extended table for it (R225). -/
theorem exec_prefixCb_ok {s : State} {op2 : Byte} (h : s.load s.pc = .ok op2) :
    exec .prefixCb s = exec (extended op2) s.afterOpcode := by
  rw [exec_extended]
  exact congrArg (andThen · extendedOperation) (fetch8_ok h)

theorem exec_prefixCb_fails {s : State} {info : MemInfo} (h : s.load s.pc = .error info) :
    FailsLeaving .prefixCb s info (s.afterLoad s.pc) :=
  congrArg (andThen · extendedOperation) (fetch8_fails h)

/-! An extended operation leaves PC where the fetch put it -/

@[simp] theorem State.afterOperand_pc (s : State) (x : Operand8) : (s.afterOperand x).pc = s.pc := by
  cases x <;> rfl

@[simp] theorem State.withOperand_pc (s : State) (x : Operand8) (v : Byte) : (s.withOperand x v).pc = s.pc := by
  cases x with
  | reg r => exact State.setReg_pc s r v
  | indHl => rfl

@[simp] theorem State.setFlagsOf_pc (s : State) (r : Result8) : (s.setFlagsOf r).pc = s.pc := rfl

section
variable {s : State} {v : Byte} (hv : s.load s.hl = .ok v) (hw : ∀ w, (s.afterLoad s.hl).canWrite s.hl w)
include hv hw

theorem operand_accessible (x : Operand8) :
    ∃ o, OperandHolds x o s ∧ ∀ w, OperandWritable x w (s.afterOperand x) := by
  cases x with
  | reg r => exact ⟨s.reg r, rfl, fun _ => trivial⟩
  | indHl => exact ⟨v, hv, hw⟩

/-- Where (HL) can be read and takes every byte, each extended operation completes, and PC stays. -/
theorem extendedOperation_completes_keeps_pc (op : Byte) : ∃ t, extendedOperation op s = .next t ∧ t.pc = s.pc := by
  obtain ⟨o, ho, how⟩ := operand_accessible hv hw (operand8OfCode (opcodeZ op))
  unfold extendedOperation
  dsimp only
  split
  · exact ⟨_, modifyWithFlags_ok ho (how _), by simp⟩
  · exact ⟨_, testBit_ok _ ho, by simp⟩
  · exact ⟨_, modifyPlain_ok ho (how _), by simp⟩
  · exact ⟨_, modifyPlain_ok ho (how _), by simp⟩

end

/-! Ticks and steps of one byte -/

/-- What ends in a tick of `u` completes as `u` but for the clock, and records the cost (R32). -/
theorem changes_and_costs_of_eq_finish {r : Out} {n : Nat} {s u : State} (hr : r = finish n u)
    (hb : u.clockBits = s.clockBits) (hc : u.clk = s.clk) :
    ∃ t, r = .next t ∧ t = { u with clk := t.clk } ∧ Costs n s t :=
  ⟨tick n u, hr, rfl, .of_tick n hb hc⟩

/-- A step that fetches an instruction of one byte runs it with PC past that byte. -/
theorem step_of_encode_singleton {s : State} {op : Byte} {i : Instr} (hf : s.faulted = false)
    (hop : s.load s.pc = .ok op) (he : encode i = [op]) (hi : i ≠ .prefixCb) : step s = exec i s.afterOpcode :=
  stepRunsDecodedInstruction s _ [op] i hf ⟨hop, rfl⟩ (decode_of_encode_eq hi he) (decide_eq_true hi)

theorem unresolved_ne_prefixCb {op : Byte} {i : Instr} (h : (op, i) ∈ Instr.unresolved) : i ≠ .prefixCb := by
  have hall : ∀ p ∈ Instr.unresolved, p.2 ≠ .prefixCb := by decide
  exact hall _ h

end Sys2Proof.Machine
end

section
/-! The obligations of spec/46_system.md. -/

namespace Sys2Proof.Machine

/-- Settles O15: the prefix row is the extended row after one more fetch, and the extended row is its operation. -/
theorem prefixResolvesTheExtendedTable : Obligations.PrefixResolvesTheExtendedTable := by
  refine fun s => ⟨fun op2 h => ⟨decode_prefix op2, exec_prefixCb_ok h⟩, fun op2 _ h hv hw => ?_,
    fun info h => exec_prefixCb_fails h⟩
  rw [exec_prefixCb_ok h, exec_extended]
  exact extendedOperation_completes_keeps_pc (s := s.afterOpcode) hv hw op2

/-- Settles O16: a step that fetches such a byte runs its row with PC one past it, so PC - 1 is the byte's address. -/
theorem unresolvedOpcodesAreFatal : Obligations.UnresolvedOpcodesAreFatal := by
  refine ⟨rfl, fun op i hm => ⟨encode_unresolved hm, exec_unresolved hm⟩, fun s op i hf hop hm => ?_⟩
  have ha : s.afterOpcode.pc - 1#16 = s.pc := BitVec.add_sub_cancel s.pc 1#16
  rw [step_of_encode_singleton hf hop (encode_unresolved hm) (unresolved_ne_prefixCb hm), exec_unresolved hm, ha]
  rfl

/-- Settles O59: NOP is a tick, and its step a fetch of one byte and that tick. -/
theorem nopOnlyAdvancesPc : Obligations.NopOnlyAdvancesPc := by
  refine ⟨fun s => changes_and_costs_of_eq_finish (u := s) rfl rfl rfl, fun s hf hop => ?_⟩
  have hstep : step s = exec .nop s.afterOpcode := step_of_encode_singleton hf hop rfl nofun
  exact changes_and_costs_of_eq_finish (u := s.afterOpcode) hstep rfl rfl

/-- Settles O60: each writes its bit and ticks. -/
theorem haltStopDiEi : Obligations.HaltStopDiEi := fun _ s =>
  ⟨rfl, rfl, rfl, rfl,
    changes_and_costs_of_eq_finish (u := { s with halted := true }) rfl rfl rfl,
    changes_and_costs_of_eq_finish (u := { s with stopped := true }) rfl rfl rfl,
    changes_and_costs_of_eq_finish (u := { s with ime := false }) rfl rfl rfl,
    changes_and_costs_of_eq_finish (u := { s with ime := true }) rfl rfl rfl⟩

end Sys2Proof.Machine
end

section
/-! SUPPORT. What a fault leaves (spec/60_exceptions.md R230 to R233) and the shell's interrupt procedure between two
steps (spec/60_exceptions.md R237, R246; log entries 14 and 23): its choice of a source, its two reads, and the moves
that follow them. -/

namespace Sys2Proof.Machine

/-! What a fault leaves -/

/-- A fetch moves PC and what the Memory Unit remembers, as accesses do. -/
theorem accessed_of_fetchInstr {s t : State} {i : Instr} (h : fetchInstr s = .next (i, t)) : Accessed s t := by
  obtain ⟨p, n, rfl⟩ := fetchInstr_eq_next h
  exact ⟨_, _, _, _, rfl, id⟩

/-- The core that a faulting step leaves has its latch set and is otherwise one that only accesses have changed. -/
theorem step_faultLeft {s left : State} {x : Fault} (h : step s = .fault x) (hl : faultLeft x = some left) :
    ∃ u, Accessed s u ∧ left = { u with faulted := true } := by
  unfold step stepWith at h
  split at h
  · cases h
    cases hl
  obtain hfetch | ⟨i, t, hfetch, hexec⟩ := andThen_eq_fault h
  · have hc := fetchInstr_completesOrFails s
    rw [hfetch] at hc
    obtain ⟨info, u, hu, rfl⟩ := hc
    exact ⟨u, hu, (Option.some.inj hl).symm⟩
  · have ht := accessed_of_fetchInstr hfetch
    obtain ⟨op, -, rfl⟩ | ⟨info, u, hu, rfl⟩ := exec_eq_fault hexec
    · exact ⟨t, ht, (Option.some.inj hl).symm⟩
    · exact ⟨u, ht.trans hu, (Option.some.inj hl).symm⟩

/-- Neither an access nor the latch touches what the invariant says of F and of the clock. -/
theorem Accessed.inv_latched {s u : State} (h : Accessed s u) (hs : Inv s) : Inv { u with faulted := true } := by
  obtain ⟨_, _, _, _, rfl, hm⟩ := h
  obtain ⟨hflags, hclk, hmem⟩ := hs
  exact ⟨hflags, hclk, hm hmem⟩

theorem Accessed.clk {s u : State} (h : Accessed s u) : u.clk = s.clk := by
  obtain ⟨_, _, _, _, rfl, -⟩ := h
  rfl

/-! The lowest pending source -/

/-- The five pending bits are all clear exactly where the mask `0x1F` leaves nothing. -/
theorem and_mask_eq_zero_iff (p : Byte) : p &&& 0x1F#8 = 0#8 ↔ ∀ i : Fin 5, p.getLsbD i.val = false := by
  have hmask : ∀ k, k < 8 → (0x1F#8).getLsbD k = decide (k < 5) := by decide
  refine ⟨fun h i => ?_, fun h => BitVec.eq_of_getLsbD_eq fun k hk => ?_⟩
  · have hbit := congrArg (BitVec.getLsbD · i.val) h
    simpa [hmask i.val (by omega)] using hbit
  · rw [BitVec.getLsbD_and, hmask k hk, BitVec.getLsbD_zero]
    by_cases h5 : k < 5
    · rw [h ⟨k, h5⟩, Bool.false_and]
    · rw [decide_eq_false h5, Bool.and_false]

/-- A source is chosen exactly where one is pending, and then it is the lowest (R237). -/
theorem lowestPending_cases (p : Byte) :
    (lowestPending p = none ∧ ∀ i : Fin 5, p.getLsbD i.val = false) ∨
    ∃ i, lowestPending p = some i ∧ p.getLsbD i.val = true ∧ ∀ j, j < i.val → p.getLsbD j = false := by
  unfold lowestPending
  split_ifs with h0 h1 h2 h3 h4
  · exact .inr ⟨0, rfl, h0, fun j hj => absurd hj (Nat.not_lt_zero j)⟩
  · exact .inr ⟨1, rfl, h1, fun | 0, _ => eq_false_of_ne_true h0⟩
  · exact .inr ⟨2, rfl, h2, fun | 0, _ => eq_false_of_ne_true h0 | 1, _ => eq_false_of_ne_true h1⟩
  · exact .inr ⟨3, rfl, h3, fun
      | 0, _ => eq_false_of_ne_true h0
      | 1, _ => eq_false_of_ne_true h1
      | 2, _ => eq_false_of_ne_true h2⟩
  · exact .inr ⟨4, rfl, h4, fun
      | 0, _ => eq_false_of_ne_true h0
      | 1, _ => eq_false_of_ne_true h1
      | 2, _ => eq_false_of_ne_true h2
      | 3, _ => eq_false_of_ne_true h3⟩
  · exact .inl ⟨rfl, fun
      | 0 => eq_false_of_ne_true h0
      | 1 => eq_false_of_ne_true h1
      | 2 => eq_false_of_ne_true h2
      | 3 => eq_false_of_ne_true h3
      | 4 => eq_false_of_ne_true h4⟩

theorem lowestPending_eq_none {p : Byte} (h : p &&& 0x1F#8 = 0#8) : lowestPending p = none := by
  obtain ⟨hn, -⟩ | ⟨i, -, hi, -⟩ := lowestPending_cases p
  · exact hn
  · exact absurd (((and_mask_eq_zero_iff p).mp h i).symm.trans hi) Bool.false_ne_true

theorem exists_lowestPending {p : Byte} (h : p &&& 0x1F#8 ≠ 0#8) : ∃ i, lowestPending p = some i := by
  obtain ⟨-, hclear⟩ | ⟨i, hs, -⟩ := lowestPending_cases p
  · exact absurd ((and_mask_eq_zero_iff p).mpr hclear) h
  · exact ⟨i, hs⟩

/-- No other source than the lowest one is chosen. -/
theorem lowestPending_of_lowest {p : Byte} {i : Fin 5} (hi : p.getLsbD i.val = true)
    (hlow : ∀ j, j < i.val → p.getLsbD j = false) : lowestPending p = some i := by
  obtain ⟨-, hclear⟩ | ⟨k, hs, hk, hklow⟩ := lowestPending_cases p
  · exact absurd ((hclear i).symm.trans hi) Bool.false_ne_true
  obtain hlt | heq | hgt := lt_trichotomy k.val i.val
  · exact absurd ((hlow k.val hlt).symm.trans hk) Bool.false_ne_true
  · rw [hs, Fin.ext heq]
  · exact absurd ((hklow i.val hgt).symm.trans hi) Bool.false_ne_true

theorem interruptVector_toNat (i : Fin 5) : (interruptVector i).toNat = 0x40 + 8 * i.val := by
  revert i
  decide

/-- A byte that has bit `n` of `v` clear and its other bits alike is `v` with that bit cleared. -/
theorem eq_clearBit {v g : Byte} {n : Nat} (hn : n ≤ 7) (hbit : g.getLsbD n = false)
    (hkeep : ∀ k, k ≠ n → g.getLsbD k = v.getLsbD k) : g = clearBit v n := by
  obtain ⟨hcbit, hckeep⟩ := clearBit_forces v hn
  refine BitVec.eq_of_getLsbD_eq fun k _ => ?_
  by_cases hk : k = n
  · rw [hk, hbit, hcbit]
  · rw [hkeep k hk, hckeep k hk]

/-! The procedure -/

/-- The part of the procedure that follows its two reads, `flagged` being what IF read as (R237). -/
def servicePending (flagged : Byte) (source : Option (Fin 5)) (s : State) : Out :=
  match source with
  | none => .next s
  | some i =>
    if s.ime then
      thenDo (memWrite { s with halted := false } 0xFF0F#16 (clearBit flagged i.val)) fun t =>
      thenDo (push16 { t with ime := false } t.pc) fun u => .next { u with pc := interruptVector i }
    else .next { s with halted := false }

section
variable {s : State}

theorem serviceInterrupt_fails_first {info : MemInfo} (h : s.load 0xFFFF#16 = .error info) :
    serviceInterrupt s = .fault (.memoryAccessFailure info { s.afterLoad 0xFFFF#16 with faulted := true }) := by
  rw [serviceInterrupt, memRead_error h, andThen_fault]

variable {e : Byte} (he : s.load 0xFFFF#16 = .ok e)
include he

theorem serviceInterrupt_fails_second {info : MemInfo} (h : (s.afterLoad 0xFFFF#16).load 0xFF0F#16 = .error info) :
    serviceInterrupt s = .fault (.memoryAccessFailure info
      { (s.afterLoad 0xFFFF#16).afterLoad 0xFF0F#16 with faulted := true }) := by
  rw [serviceInterrupt, memRead_ok he, andThen_next, memRead_error h, andThen_fault]

theorem serviceInterrupt_ok {f : Byte} (hf : (s.afterLoad 0xFFFF#16).load 0xFF0F#16 = .ok f) : serviceInterrupt s =
    servicePending f (lowestPending (e &&& f)) ((s.afterLoad 0xFFFF#16).afterLoad 0xFF0F#16) := by
  rw [serviceInterrupt, memRead_ok he, andThen_next, memRead_ok hf, andThen_next]
  rfl

end

theorem servicePending_of_not_ime {s : State} (f : Byte) (i : Fin 5) (h : s.ime = false) :
    servicePending f (some i) s = .next { s with halted := false } :=
  if_neg (ne_true_of_eq_false h)

/-- The state after source `i` is taken, every write accepted (R237). -/
def State.afterInterrupt (s : State) (f : Byte) (i : Fin 5) : State :=
  { pushedState (s.afterStore 0xFF0F#16 (clearBit f i.val)) s.pc with
    pc := interruptVector i, ime := false, halted := false }

/-- Taking a source leaves the registers, the clock, `stopped`, the latch and the parameters alone. -/
theorem State.afterInterrupt_frame (s : State) (f : Byte) (i : Fin 5) : s.afterInterrupt f i =
    { s with
      pc := (s.afterInterrupt f i).pc, sp := (s.afterInterrupt f i).sp, ime := false, halted := false,
      mem := (s.afterInterrupt f i).mem, unit := (s.afterInterrupt f i).unit } := by
  simp [State.afterInterrupt]

theorem servicePending_taken {s : State} {f : Byte} {i : Fin 5} (h : s.ime = true)
    (hw : s.canWrite 0xFF0F#16 (clearBit f i.val)) (hp : (s.afterStore 0xFF0F#16 (clearBit f i.val)).canPush s.pc) :
    servicePending f (some i) s = .next (s.afterInterrupt f i) := by
  have hw' : State.canWrite { s with halted := false } 0xFF0F#16 (clearBit f i.val) := hw
  have hp' : State.canPush
      { State.afterStore { s with halted := false } 0xFF0F#16 (clearBit f i.val) with ime := false } s.pc := hp
  rw [servicePending, if_pos h, memWrite_ok hw', thenDo_next]
  exact congrArg (thenDo · fun u => .next { u with pc := interruptVector i }) (push16_ok hp')

end Sys2Proof.Machine
end

section
/-! The obligations of spec/60_exceptions.md. -/

namespace Sys2Proof.Machine

/-- Settles O10: besides the latch, only accesses have changed what a fault leaves. -/
theorem faultSetsTheLatchAndEndsStepping : Obligations.FaultSetsTheLatchAndEndsStepping := by
  refine ⟨fun s left x h hl => ?_, fun s hf => if_pos hf⟩
  obtain ⟨u, hu, rfl⟩ := step_faultLeft h hl
  exact ⟨rfl, hu.clk, hu.inv_latched⟩

/-- Settles O26: the two reads choose the source; what follows is `servicePending` on it, and the byte written back is
the one that the statement describes bit by bit. -/
theorem interruptServiceTakesTheLowestPending : Obligations.InterruptServiceTakesTheLowestPending := by
  intro s s1 r
  refine ⟨fun info h => serviceInterrupt_fails_first h, fun e info he h => serviceInterrupt_fails_second he h,
    fun e f he hf => ?_⟩
  rw [serviceInterrupt_ok he hf]
  refine ⟨fun h => ?_, fun h hime => ?_, fun i g hi hlow hime hbit hkeep hw hp => ?_⟩
  · rw [lowestPending_eq_none h]
    rfl
  · obtain ⟨i, hs⟩ := exists_lowestPending h
    rw [hs]
    exact servicePending_of_not_ime f i hime
  · obtain rfl := eq_clearBit (by omega) hbit hkeep
    rw [lowestPending_of_lowest hi hlow]
    exact ⟨r.afterInterrupt f i, servicePending_taken hime hw hp, interruptVector_toNat i, r.afterInterrupt_frame f i,
      stores_afterStore r 0xFF0F#16 _, pushed_pushedState _ s.pc⟩

end Sys2Proof.Machine
end
